-- ==== Sys2Proof/Word.lean ====
section
/-! DEFINITION. The widths the spec names: transaction words, read words, nibbles, bytes, raw captures. -/

namespace Sys2Proof

/-- A transaction word, 64 bits (spec/30_encoding.md R70). -/
abbrev TxWord := BitVec 64

/-- A telemetry read word and a counter, 32 bits (spec/20_memory.md R50, spec/10_state.md R24). -/
abbrev Word := BitVec 32

/-- "Nibble": a 4-bit value, 0 to 15 (spec/00_scope.md R15). -/
abbrev Nibble := BitVec 4

/-- A byte: the two checksums and the secondary field (spec/10_state.md R31 to R33). -/
abbrev Byte := BitVec 8

/-- The raw capture: six data nibbles, nibble `i` at bits `4i+3:4i` (spec/10_state.md R30). -/
abbrev RawCapture := BitVec 24

/-- The canonical message `MSG[0..6]` (spec/10_state.md R37, spec/41_frame_decoder.md R120). -/
abbrev Msg := Vector Nibble 7

end Sys2Proof
end

