-- ==== Sys2Proof/Syntax.lean ====
section
/-! DEFINITION. The transactions of SENTCORE, which play the part of its instructions
(spec/00_scope.md R3): one constructor per row of spec/opcode_table.json. -/

namespace Sys2Proof

/-- A transaction with its operands. Each field has the width the spec gives it and is taken as an
unsigned value (spec/30_encoding.md R72, R74, R75, R79). -/
inductive Instr where
  /-- EVENT: one invocation of the core by the receive collaborator (spec/44_event_readout.md R190). -/
  | event (flt : BitVec 10) (fc : Bool) (raw : RawCapture) (stat : Nibble) (rcrc : Byte)
  /-- READ: one telemetry word by index (spec/44_event_readout.md R200). -/
  | read (reg : BitVec 5)
  /-- RESET: system start (spec/70_reset_and_hazards.md R250). -/
  | reset
deriving DecidableEq, Repr

end Sys2Proof
end

