-- ==== Sys2Proof/Names.lean ====
section
/-! DEFINITION. The names the spec gives: the ten fault kinds, the 17 words of the read space, the
monitor's phases and frame roles. Their numbers stand in Machine/Operands.lean. -/

namespace Sys2Proof

/-- The ten fault kinds, in the order and with the mnemonics of spec/10_state.md R23. -/
inductive FaultKind where
  | rxovf   -- RxBufferOverflow
  | txunf   -- TxBufferUnderflow
  | frqrng  -- FrequencyRangeError
  | frqdrf  -- FrequencyDriftError
  | nibcnt  -- WrongNibbleCount
  | nibval  -- NibbleValueOutOfRange
  | hwcrc   -- CrcMismatch (hardware-reported)
  | stnib   -- WrongStatusNibble
  | sercrc  -- SerialCrcError
  | wdt     -- WatchdogTimeout
deriving DecidableEq, Repr

/-- The defined words of the telemetry register space (spec/20_memory.md R51, indices 0 to 16). -/
inductive RegName where
  | errCnt (k : FaultKind)  -- ERRCNT_<mnemonic>, indices 0 to 9
  | frameCnt                -- FRAMECNT, 10
  | crcCalc                 -- CRCCALC, 11
  | crcRecv                 -- CRCRECV, 12
  | monStat                 -- MONSTAT, 13
  | monRem                  -- MONREM, 14
  | rawFrame                -- RAWFRAME, 15
  | payload                 -- PAYLOAD, 16
deriving DecidableEq, Repr

/-- The monitor's states; not stored, a function of the registers (spec/10_state.md R28). -/
inductive Phase where
  | warmup
  | settling
  | monitoringOk
  | monitoringAlarm
deriving DecidableEq, Repr

/-- How the monitor treats a frame (spec/43_redundancy_monitor.md R161). -/
inductive FrameRole where
  | warmupFrame
  | settleFrame
  | monitoredFrame
deriving DecidableEq, Repr

end Sys2Proof
end

