-- ==== Sys2Proof/Asm.lean ====
section
/-! DEFINITION. The lines of the spec's assembler (spec/30_encoding.md R83, R84) as data. Numbers are
unbounded here, as a source line can write any; WellFormed.lean says which fit. -/

namespace Sys2Proof

/-- The operand of a READ line: `READ <regname>` or `READ <index>` (spec/30_encoding.md R83). -/
inductive ReadOperand where
  | name (r : RegName)
  | index (i : Nat)
deriving DecidableEq, Repr

/-- One line: a transaction (spec/30_encoding.md R83) or a pseudo-instruction (R84). -/
inductive AsmLine where
  | event (flags : List FaultKind) (fc raw st rcrc : Nat)
  | read (operand : ReadOperand)
  | reset
  | idle
  | faults (flags : List FaultKind)
  | frame (raw st rcrc : Nat)
  | frameOk (raw st : Nat)
  | frameBad (raw st : Nat)
deriving DecidableEq, Repr

end Sys2Proof
end

