-- ==== Sys2Proof/WellFormed.lean ====
section
/-! DEFINITION. Well-formedness of transactions and of assembler lines. -/

namespace Sys2Proof

/-- A transaction is well formed when every operand fits its field. The field types carry the widths
(spec/30_encoding.md R72, R74, R75), and no other value is shut out: READ with `REG` in 17..31 is a
transaction that decodes and is refused only when performed (R77). So this check refuses no term; what
can be ill formed is a source line, below. -/
def Instr.wf : Instr → Bool
  | .event _ _ _ _ _ => true
  | .read _ => true
  | .reset => true

/-- `value` fits a field of `width` bits: "An assembler must reject a value that does not fit its field"
(spec/30_encoding.md R83). -/
def fitsField (width value : Nat) : Bool := value < 2 ^ width

/-- The operand of a READ line fits `REG`, 5 bits (spec/30_encoding.md R74, R83). A defined name always
does; an index may be any of 0..31, the reserved ones too (R77). -/
def ReadOperand.wf : ReadOperand → Bool
  | .name _ => true
  | .index i => fitsField 5 i

/-- An assembler line whose every value fits its field (spec/30_encoding.md R72, R74, R83, R84). -/
def AsmLine.wf : AsmLine → Bool
  | .event _ fc raw st rcrc => fitsField 1 fc && fitsField 24 raw && fitsField 4 st && fitsField 8 rcrc
  | .read operand => operand.wf
  | .reset => true
  | .idle => true
  | .faults _ => true
  | .frame raw st rcrc => fitsField 24 raw && fitsField 4 st && fitsField 8 rcrc
  | .frameOk raw st => fitsField 24 raw && fitsField 4 st
  | .frameBad raw st => fitsField 24 raw && fitsField 4 st

end Sys2Proof
end

