-- ==== Sys2Proof/Decode.lean ====
section
/-! DEFINITION. The decoder of spec/30_encoding.md R80, total on 64-bit words, the opcode map R81, the
encoder from R72, R74 and R75, and the host's entry `decodeTableWord`. -/

namespace Sys2Proof

/-- What a word spells: a transaction, or nothing, with the reason by name (spec/30_encoding.md R76, R77). -/
inductive Decoded where
  | instr (i : Instr)
  /-- `KIND = 0b11`: `REFUSE_RESERVED_KIND` (R76). -/
  | reservedKind
  /-- a 1 in a reserved bit of the format: `REFUSE_RESERVED_BITS` (R77). -/
  | reservedBits
deriving DecidableEq, Repr

/-- Field `KIND`, bits 63:62 (spec/30_encoding.md R71). -/
def kindField (w : TxWord) : BitVec 2 := w.extractLsb' 62 2

/-- EVENT field `FLT`, bits 9:0 (spec/30_encoding.md R72). -/
def fltField (w : TxWord) : BitVec 10 := w.extractLsb' 0 10

/-- EVENT field `FC`, bit 10 (spec/30_encoding.md R72). -/
def fcField (w : TxWord) : Bool := w.getLsbD 10

/-- EVENT field `RSV0`, bits 15:11, must be 0 (spec/30_encoding.md R72). -/
def rsv0Field (w : TxWord) : BitVec 5 := w.extractLsb' 11 5

/-- EVENT field `RAW`, bits 39:16 (spec/30_encoding.md R72). -/
def rawField (w : TxWord) : RawCapture := w.extractLsb' 16 24

/-- EVENT field `STAT`, bits 43:40 (spec/30_encoding.md R72). -/
def statField (w : TxWord) : Nibble := w.extractLsb' 40 4

/-- EVENT field `RCRC`, bits 51:44 (spec/30_encoding.md R72). -/
def rcrcField (w : TxWord) : Byte := w.extractLsb' 44 8

/-- EVENT field `RSV1`, bits 61:52, must be 0 (spec/30_encoding.md R72). -/
def rsv1Field (w : TxWord) : BitVec 10 := w.extractLsb' 52 10

/-- READ field `REG`, bits 4:0 (spec/30_encoding.md R74). -/
def regField (w : TxWord) : BitVec 5 := w.extractLsb' 0 5

/-- READ field `RSV`, bits 61:5, must be 0 (spec/30_encoding.md R74). -/
def readRsvField (w : TxWord) : BitVec 57 := w.extractLsb' 5 57

/-- Bits 61:0, all reserved in RESET (spec/30_encoding.md R75). -/
def resetRsvField (w : TxWord) : BitVec 62 := w.extractLsb' 0 62

/-- The decoder of spec/30_encoding.md R80. `KIND = 0b11` is checked before the reserved bits
(spec/60_exceptions.md R228). -/
def decode (w : TxWord) : Decoded :=
  if kindField w = 0b11#2 then .reservedKind
  else if kindField w = 0b10#2 then
    if resetRsvField w ≠ 0 then .reservedBits else .instr .reset
  else if kindField w = 0b01#2 then
    if readRsvField w ≠ 0 then .reservedBits else .instr (.read (regField w))
  else
    if rsv1Field w ≠ 0 ∨ rsv0Field w ≠ 0 then .reservedBits
    else .instr (.event (fltField w) (fcField w) (rawField w) (statField w) (rcrcField w))

/-- The word of a transaction, by the formulas of spec/30_encoding.md R72, R74 and R75. -/
def encode : Instr → TxWord
  | .event flt fc raw stat rcrc =>
      (rcrc.setWidth 64 <<< 44) ||| (stat.setWidth 64 <<< 40) ||| (raw.setWidth 64 <<< 16)
        ||| ((BitVec.ofBool fc).setWidth 64 <<< 10) ||| flt.setWidth 64
  | .read reg => 0x4000000000000000#64 ||| reg.setWidth 64
  | .reset => 0x8000000000000000#64

/-- One row of the opcode map (spec/30_encoding.md R81): `w` is the row's transaction when
`w & mask = match`. -/
structure OpcodeRow where
  mnemonic : String
  pattern  : TxWord
  mask     : TxWord
deriving DecidableEq, Repr

/-- `(w & mask) = match` (spec/30_encoding.md R81). -/
def OpcodeRow.matchesWord (r : OpcodeRow) (w : TxWord) : Bool := w &&& r.mask = r.pattern

def eventRow : OpcodeRow := ⟨"EVENT", 0x0000000000000000, 0xFFF000000000F800⟩
def readRow : OpcodeRow := ⟨"READ", 0x4000000000000000, 0xFFFFFFFFFFFFFFE0⟩
def resetRow : OpcodeRow := ⟨"RESET", 0x8000000000000000, 0xFFFFFFFFFFFFFFFF⟩

/-- The opcode map of spec/30_encoding.md R81. -/
def opcodeTable : List OpcodeRow := [eventRow, readRow, resetRow]

/-- The row of the opcode map that a transaction belongs to. -/
def opcodeRowOf : Instr → OpcodeRow
  | .event _ _ _ _ _ => eventRow
  | .read _ => readRow
  | .reset => resetRow

/-- The transaction the decoder reads from the opcode table's bits: a row has at most 64 bits, the bits
above `nbits` are 0, and the word is not laid out in bytes at all (spec/20_memory.md R55; log 4). -/
def decodeTableWord (nbits w : Nat) : Option Instr :=
  if nbits ≤ 64 ∧ w < 2 ^ nbits then
    match decode (BitVec.ofNat 64 w) with
    | .instr i => some i
    | .reservedKind => none
    | .reservedBits => none
  else none

end Sys2Proof
end

