-- ==== Sys2Proof/Config.lean ====
section
/-! DEFINITION. The parameters of SENTCORE (spec/00_scope.md R9, R10, R38) and the free values of the
model: what the session registers hold while the spec says they hold no value. -/

namespace Sys2Proof

/-- A configuration as it is offered at model construction, before the check of spec/00_scope.md R10.
`CRC_SEED` and `CRC_TABLE` are raw numbers, so that a seed above 15 or a table that is no permutation can
be written down and refused (R226). -/
structure Params where
  crcSeed  : Nat
  crcTable : List Nat
  wInit    : BitVec 8
  sInit    : BitVec 8
deriving DecidableEq, Repr

/-- A configuration that meets spec/00_scope.md R10: the seed is a nibble and the sixteen table entries
are nibbles, all different. "The model never computes with" any other (R10), so no other can be built. -/
structure Config where
  /-- `CRC_SEED` -/
  crcSeed   : Nibble
  /-- `CRC_TABLE[0..15]` -/
  crcTable  : Vector Nibble 16
  /-- the sixteen entries are all different (R10) -/
  tablePerm : crcTable.toList.Nodup
  /-- `W_INIT`, the reset value of `WARM_REM`, in 0..255 -/
  wInit     : BitVec 8
  /-- `S_INIT`, the reset value of `SETTLE_REM`, in 0..255 -/
  sInit     : BitVec 8
deriving DecidableEq, Repr

namespace Config

/-- `CRC_SEED`: "reference value 0x05" (spec/00_scope.md R9). -/
def refSeed : Nibble := 0x5

/-- The default `CRC_TABLE` of spec/40_crc4.md R101.
PRESUMED (log 2): the spec marks these sixteen values as general knowledge; `CRC_TABLE` is an OPEN
parameter. Unsafe for a claim that fixes this table. -/
def refTable : Vector Nibble 16 := #v[0, 13, 7, 10, 14, 3, 9, 4, 1, 12, 6, 11, 15, 2, 8, 5]

/-- The reference configuration: the values of spec/00_scope.md R9, with the default table of R101. -/
def reference : Config :=
  { crcSeed := refSeed, crcTable := refTable, tablePerm := by decide, wInit := 3, sInit := 3 }

/-- The reference configuration as it is offered at model construction. -/
def referenceParams : Params :=
  { crcSeed := 5, crcTable := [0, 13, 7, 10, 14, 3, 9, 4, 1, 12, 6, 11, 15, 2, 8, 5], wInit := 3, sInit := 3 }

/-! Free values (log 3, DESIGN CHOICE): what the six session registers hold after the `n`-th reset and
before the first frame, where spec/10_state.md R22 says `UNSPEC`. They have no body, so nothing can be
proved of them. -/

opaque unspecRawData : Nat → RawCapture
opaque unspecRawStatus : Nat → Nibble
opaque unspecPayPrimary : Nat → BitVec 16
opaque unspecPaySecondary : Nat → Byte
opaque unspecCrcCalc : Nat → Byte
opaque unspecCrcRecv : Nat → Byte

end Config

end Sys2Proof
end

