-- ==== Sys2Proof/Machine/State.lean ====
section
/-! DEFINITION. The state of SENTCORE as plain data, the reasons a transaction can stop, and the state
right after reset. -/

namespace Sys2Proof.Machine

/-- Fault outcomes (spec/60_exceptions.md R221): the transaction is legal, but the spec gives the case no
value. The machine's registers do not change. -/
inductive Fault where
  /-- `FAULT_UNWRITTEN_READ`, code 3 (R224). Raised by READ of index 11, 12, 15 or 16 before the first
  frame since reset; records `REG`. Safe: no value is claimed. -/
  | unwrittenRead (reg : BitVec 5)
  /-- `FAULT_INVALID_FRAME`, code 6 (R227). Raised only by the byte-level CRC interface `crc4Bytes`
  (spec/40_crc4.md R106), never by a transaction; records the index of the first byte above `0x0F`. Safe. -/
  | invalidFrame (index : Nat)
deriving DecidableEq, Repr

/-- Refusal outcomes (spec/60_exceptions.md R221): the word spells no transaction, or none that the block
defines. The machine's registers do not change. -/
inductive Refusal where
  /-- An instruction this model gives no meaning to; no arm of `exec` uses it. Safe. -/
  | notModelled (mnemonic : String)
  /-- `REFUSE_RESERVED_KIND`, code 1 (R222). Raised by decode on `KIND = 0b11`; records the word. Safe. -/
  | reservedKind (word : TxWord)
  /-- `REFUSE_RESERVED_REG`, code 2 (R223). Raised by READ with `REG` in 17..31; records `REG`. Safe. -/
  | reservedReg (reg : BitVec 5)
  /-- `REFUSE_RESERVED_BITS`, code 4 (R225). Raised by decode on a 1 in a reserved bit; records the word.
  Safe. -/
  | reservedBits (word : TxWord)
  /-- `REFUSE_BAD_CONFIG`, code 5 (R226). Raised by model construction, before any transaction, on a seed
  above 15 or a table that is no permutation of 0..15. Safe. -/
  | badConfig
deriving DecidableEq, Repr

/-- The first fault or refusal of a run, as the mark of spec/60_exceptions.md R221 keeps it. -/
inductive Stop where
  | fault (f : Fault)
  | refused (r : Refusal)
deriving DecidableEq, Repr

/-- The fault-counter file `ERR_CNT[0..9]`, one field per kind in the order of spec/10_state.md R23. -/
structure ErrCnt where
  rxovf  : Word
  txunf  : Word
  frqrng : Word
  frqdrf : Word
  nibcnt : Word
  nibval : Word
  hwcrc  : Word
  stnib  : Word
  sercrc : Word
  wdt    : Word
deriving DecidableEq, Repr

/-- The registers of SENTCORE, the complete table of spec/10_state.md R22, and the ghost bit of R36. -/
structure Regs where
  /-- `ERR_CNT[0..9]` (R24) -/
  errCnt       : ErrCnt
  /-- `FRAME_COUNT` (R29) -/
  frameCount   : Word
  /-- `WARM_REM` (R25) -/
  warmRem      : BitVec 8
  /-- `SETTLE_REM` (R26) -/
  settleRem    : BitVec 8
  /-- `ALARM_ACTIVE` (R27) -/
  alarmActive  : Bool
  /-- `RAW_DATA` (R30) -/
  rawData      : RawCapture
  /-- `RAW_STATUS` (R30) -/
  rawStatus    : Nibble
  /-- `PAY_PRIMARY` (R31) -/
  payPrimary   : BitVec 16
  /-- `PAY_SECONDARY` (R31) -/
  paySecondary : Byte
  /-- `CRC_CALC` (R32) -/
  crcCalc      : Byte
  /-- `CRC_RECV` (R33) -/
  crcRecv      : Byte
  /-- `ALARM_IND`, also an output port (R34) -/
  alarmInd     : Bool
  /-- `HEARTBEAT_IND`, also an output port (R35) -/
  heartbeatInd : Bool
  /-- `SESSION_WR`, the ghost bit of R36: a frame was stored since reset -/
  sessionWr    : Bool
deriving DecidableEq, Repr

/-- The machine. `regs` is what the hardware holds; the other fields are the model's own. -/
structure State where
  /-- The parameters of spec/00_scope.md R9. "Configuration is not state": no step writes them
  (spec/10_state.md R38); they stand here so that `step` takes them as an argument (log 1). -/
  cfg       : Config
  /-- The registers (spec/10_state.md R22). -/
  regs      : Regs
  /-- The transactions delivered and not yet performed, oldest first: the total order of
  spec/20_memory.md R60 (log 4). -/
  inbox     : List TxWord
  /-- `rdata` of the transaction just performed, which only a READ has (spec/44_event_readout.md R200,
  spec/60_exceptions.md R221; log 5). -/
  rdata     : Option Word
  /-- The mark of spec/60_exceptions.md R221: the first fault or refusal of the run (log 6). -/
  firstStop : Option Stop
  /-- How many RESETs were performed: the index at which the free values of log 3 are drawn. -/
  resets    : Nat
deriving DecidableEq, Repr

/-- All ten counters at 0 (spec/10_state.md R22, R24). -/
def ErrCnt.zero : ErrCnt := ⟨0, 0, 0, 0, 0, 0, 0, 0, 0, 0⟩

/-- The registers at power-on (spec/10_state.md R22, spec/70_reset_and_hazards.md R251). The six session
registers are `UNSPEC`: they hold free values, drawn at index `n` (log 3, DESIGN CHOICE). -/
def Regs.powerOn (cfg : Config) (n : Nat) : Regs :=
  { errCnt       := ErrCnt.zero
    frameCount   := 0
    warmRem      := cfg.wInit
    settleRem    := cfg.sInit
    alarmActive  := false
    rawData      := Config.unspecRawData n
    rawStatus    := Config.unspecRawStatus n
    payPrimary   := Config.unspecPayPrimary n
    paySecondary := Config.unspecPaySecondary n
    crcCalc      := Config.unspecCrcCalc n
    crcRecv      := Config.unspecCrcRecv n
    alarmInd     := false
    heartbeatInd := false
    sessionWr    := false }

/-- The machine at power-on under a configuration: no transaction delivered, no result, no mark. -/
def State.powerOn (cfg : Config) : State :=
  { cfg := cfg, regs := Regs.powerOn cfg 0, inbox := [], rdata := none, firstStop := none, resets := 0 }

/-- The machine right after reset, in the reference configuration (spec/70_reset_and_hazards.md R250,
R251; spec/00_scope.md R9). -/
def State.reset : State := State.powerOn Config.reference

end Sys2Proof.Machine
end

