-- ==== Sys2Proof/Machine/Flags.lean ====
section
/-! DEFINITION. Flag computations: SENTCORE's only stored flag is `ALARM_ACTIVE` (spec/10_state.md R39).
The phase and the frame role, which are functions of the registers, stand here too. -/

namespace Sys2Proof.Machine

/-- The alarm of a monitored frame: all 8 bits of both checksums are compared
(spec/43_redundancy_monitor.md R164). -/
def mismatch (calculated received : Byte) : Bool := calculated != received

/-- `phase()` (spec/10_state.md R28). -/
def phase (r : Regs) : Phase :=
  if r.warmRem ≠ 0 then .warmup
  else if r.settleRem ≠ 0 then .settling
  else if r.alarmActive then .monitoringAlarm
  else .monitoringOk

/-- Field `PHASE` of `MONSTAT` (spec/20_memory.md R53). -/
def phaseCode : Phase → BitVec 2
  | .warmup => 0b00
  | .settling => 0b01
  | .monitoringOk => 0b10
  | .monitoringAlarm => 0b10

/-- `role(WARM_REM, SETTLE_REM)` (spec/43_redundancy_monitor.md R161). -/
def frameRole (warmRem settleRem : BitVec 8) : FrameRole :=
  if 2 ≤ warmRem.toNat then .warmupFrame
  else if 1 ≤ settleRem.toNat then .settleFrame
  else .monitoredFrame

end Sys2Proof.Machine
end

