-- ==== Sys2Proof/Machine/Operands.lean ====
section
/-! DEFINITION. Operand forms: the numbers of fault kinds and of the read space, flag bits, the data
nibbles of a raw capture, the counter file by kind. -/

namespace Sys2Proof.Machine

/-- The number `k` of a fault kind: the index of its counter and the bit of its flag
(spec/10_state.md R23). -/
def faultNumber : FaultKind → Nat
  | .rxovf => 0
  | .txunf => 1
  | .frqrng => 2
  | .frqdrf => 3
  | .nibcnt => 4
  | .nibval => 5
  | .hwcrc => 6
  | .stnib => 7
  | .sercrc => 8
  | .wdt => 9

/-- The ten kinds in the order of their numbers (spec/10_state.md R23). -/
def allFaultKinds : List FaultKind :=
  [.rxovf, .txunf, .frqrng, .frqdrf, .nibcnt, .nibval, .hwcrc, .stnib, .sercrc, .wdt]

/-- `FLT[k]` for the number `k` of a kind (spec/30_encoding.md R72, R79(a)). -/
def faultFlag (flt : BitVec 10) (k : FaultKind) : Bool := flt.getLsbD (faultNumber k)

/-- `ERR_CNT[k]` (spec/00_scope.md R12). -/
def ErrCnt.get (c : ErrCnt) : FaultKind → Word
  | .rxovf => c.rxovf
  | .txunf => c.txunf
  | .frqrng => c.frqrng
  | .frqdrf => c.frqdrf
  | .nibcnt => c.nibcnt
  | .nibval => c.nibval
  | .hwcrc => c.hwcrc
  | .stnib => c.stnib
  | .sercrc => c.sercrc
  | .wdt => c.wdt

/-- The counter file whose counter `k` holds `f k`. -/
def ErrCnt.tabulate (f : FaultKind → Word) : ErrCnt :=
  ⟨f .rxovf, f .txunf, f .frqrng, f .frqdrf, f .nibcnt, f .nibval, f .hwcrc, f .stnib, f .sercrc, f .wdt⟩

/-- Data nibble `i` of a raw capture, `RAW[4i+3:4i]` (spec/10_state.md R30). -/
def dataNibble (raw : RawCapture) (i : Nat) : Nibble := raw.extractLsb' (4 * i) 4

/-- The index of a read word (spec/20_memory.md R51). -/
def regIndex : RegName → BitVec 5
  | .errCnt .rxovf => 0
  | .errCnt .txunf => 1
  | .errCnt .frqrng => 2
  | .errCnt .frqdrf => 3
  | .errCnt .nibcnt => 4
  | .errCnt .nibval => 5
  | .errCnt .hwcrc => 6
  | .errCnt .stnib => 7
  | .errCnt .sercrc => 8
  | .errCnt .wdt => 9
  | .frameCnt => 10
  | .crcCalc => 11
  | .crcRecv => 12
  | .monStat => 13
  | .monRem => 14
  | .rawFrame => 15
  | .payload => 16

/-- The read word an index names; 17..31 name none (spec/20_memory.md R50 to R52). -/
def regOfIndex (reg : BitVec 5) : Option RegName :=
  match reg.toNat with
  | 0 => some (.errCnt .rxovf)
  | 1 => some (.errCnt .txunf)
  | 2 => some (.errCnt .frqrng)
  | 3 => some (.errCnt .frqdrf)
  | 4 => some (.errCnt .nibcnt)
  | 5 => some (.errCnt .nibval)
  | 6 => some (.errCnt .hwcrc)
  | 7 => some (.errCnt .stnib)
  | 8 => some (.errCnt .sercrc)
  | 9 => some (.errCnt .wdt)
  | 10 => some .frameCnt
  | 11 => some .crcCalc
  | 12 => some .crcRecv
  | 13 => some .monStat
  | 14 => some .monRem
  | 15 => some .rawFrame
  | 16 => some .payload
  | _ => none

/-- The words marked "session" in the register map: they hold no value before the first frame
(spec/20_memory.md R51, spec/44_event_readout.md R200: indices 11, 12, 15 and 16). -/
def isSessionWord : RegName → Bool
  | .errCnt _ => false
  | .frameCnt => false
  | .crcCalc => true
  | .crcRecv => true
  | .monStat => false
  | .monRem => false
  | .rawFrame => true
  | .payload => true

end Sys2Proof.Machine
end

