-- ==== Sys2Proof/Machine/Ops.lean ====
section
/-! DEFINITION. The named operations the meanings share: delivering and taking a transaction, the three
outcomes of one (spec/60_exceptions.md R221), and the mark a run keeps of its first stop. SENTCORE takes no
trap and returns from none (R220, R235), so no exception entry stands here. -/

namespace Sys2Proof.Machine

/-- Deliver a transaction word so that it is performed next (log 4). -/
def deliverNext (w : TxWord) (s : State) : State := { s with inbox := w :: s.inbox }

/-- Deliver a transaction word after all those already delivered (spec/20_memory.md R60; log 4). -/
def deliver (w : TxWord) (s : State) : State := { s with inbox := s.inbox ++ [w] }

/-- Take the next transaction word, in delivery order: "no reordering or batching"
(spec/20_memory.md R60). None while no transaction is pending. -/
def takeWord (s : State) : Option (TxWord × State) :=
  match s.inbox with
  | [] => none
  | w :: rest => some (w, { s with inbox := rest })

/-- Outcome `done` without a result: the registers become `r` (spec/60_exceptions.md R221). -/
def done (r : Regs) (s : State) : Host.Outcome State Fault Refusal :=
  .next { s with regs := r, rdata := none }

/-- Outcome `done` with the result `v` of a READ: no register is written (spec/44_event_readout.md R200,
spec/20_memory.md R58). -/
def doneWith (v : Word) (s : State) : Host.Outcome State Fault Refusal :=
  .next { s with rdata := some v }

/-- What a run keeps of a transaction that stopped: it is consumed, no register changes, it has no result,
and the mark records it if it is the first (spec/60_exceptions.md R221; log 6). -/
def recordStop (x : Stop) (s : State) : State :=
  { s with inbox := s.inbox.tail, rdata := none, firstStop := s.firstStop.or (some x) }

/-- The code of a fault (spec/60_exceptions.md R224, R227). -/
def faultCode : Fault → Nat
  | .unwrittenRead _ => 3
  | .invalidFrame _ => 6

/-- The code of a refusal (spec/60_exceptions.md R222, R223, R225, R226); the model's own refusal has none
in the spec. -/
def refusalCode : Refusal → Option Nat
  | .reservedKind _ => some 1
  | .reservedReg _ => some 2
  | .reservedBits _ => some 4
  | .badConfig => some 5
  | _ => none

end Sys2Proof.Machine
end

