-- ==== Sys2Proof/Machine/Crc4.lean ====
section
/-! DEFINITION. The CRC-4 engine (spec/40_crc4.md). It runs only inside an EVENT with `FC = 1` (R100). -/

namespace Sys2Proof.Machine

/-- `CRC_TABLE[x]` (spec/40_crc4.md R101). -/
def crcTableAt (cfg : Config) (x : Nibble) : Nibble := cfg.crcTable[x.toNat]

/-- One iteration: `acc <- CRC_TABLE[acc xor MSG[i]]` (spec/40_crc4.md R102). -/
def crcStep (cfg : Config) (acc m : Nibble) : Nibble := crcTableAt cfg (acc ^^^ m)

/-- `CRC4(MSG)`: from `CRC_SEED`, one iteration per nibble, `MSG[0]` first (spec/40_crc4.md R102, R103). -/
def crc4 (cfg : Config) (msg : Msg) : Nibble := msg.toList.foldl (crcStep cfg) cfg.crcSeed

/-- The index of the first byte above `0x0F`, counting from `i`. -/
def firstWideByte (i : Nat) : List Byte → Option Nat
  | [] => none
  | b :: bs => if 0x0F < b.toNat then some i else firstWideByte (i + 1) bs

/-- `CRC4_bytes(B)`, the byte-level interface of the model's boundary: a byte above `0x0F` faults with its
index and is never masked (spec/40_crc4.md R106, spec/60_exceptions.md R227). -/
def crc4Bytes (cfg : Config) (b : Vector Byte 7) : Except Fault Byte :=
  match firstWideByte 0 b.toList with
  | some i => .error (.invalidFrame i)
  | none =>
    .ok ((crc4 cfg #v[b[0].extractLsb' 0 4, b[1].extractLsb' 0 4, b[2].extractLsb' 0 4, b[3].extractLsb' 0 4,
      b[4].extractLsb' 0 4, b[5].extractLsb' 0 4, b[6].extractLsb' 0 4]).setWidth 8)

end Sys2Proof.Machine
end

