-- ==== Sys2Proof/Machine/ErrorCounters.lean ====
section
/-! DEFINITION. The error counter accumulator (spec/42_error_counters.md). -/

namespace Sys2Proof.Machine

/-- `CLASSIFY(FLT)` on the counter file: each counter whose flag is set rises by 1, modulo `2^32`
(spec/42_error_counters.md R141). -/
def countFaults (flt : BitVec 10) (c : ErrCnt) : ErrCnt :=
  ErrCnt.tabulate fun k => if faultFlag flt k then c.get k + 1 else c.get k

/-- `CLASSIFY(FLT)`: it writes `ERR_CNT` and no other register (spec/42_error_counters.md R141). -/
def classify (flt : BitVec 10) (r : Regs) : Regs := { r with errCnt := countFaults flt r.errCnt }

end Sys2Proof.Machine
end

