-- ==== Sys2Proof/Machine/FrameDecoder.lean ====
section
/-! DEFINITION. The frame decoder (spec/41_frame_decoder.md): pure, without an error case (R123, R124). -/

namespace Sys2Proof.Machine

/-- `DECODE_MSG(RAW, STAT)`: the canonical message `{status, nibble3, nibble2, nibble1, nibble0, nibble5,
nibble4}` (spec/41_frame_decoder.md R120). -/
def decodeMsg (raw : RawCapture) (stat : Nibble) : Msg :=
  #v[stat, dataNibble raw 3, dataNibble raw 2, dataNibble raw 1, dataNibble raw 0, dataNibble raw 5,
    dataNibble raw 4]

/-- `PRIMARY(RAW) = RAW[15:0]` (spec/41_frame_decoder.md R121). -/
def primaryField (raw : RawCapture) : BitVec 16 := raw.extractLsb' 0 16

/-- `SECONDARY(RAW) = RAW[23:16]` (spec/41_frame_decoder.md R122). -/
def secondaryField (raw : RawCapture) : Byte := raw.extractLsb' 16 8

/-- `ENCODE_FRAME(MSG)`, the inverse of `DECODE_MSG` (spec/41_frame_decoder.md R126). -/
def encodeFrame (msg : Msg) : RawCapture × Nibble :=
  (msg[5] ++ msg[6] ++ msg[1] ++ msg[2] ++ msg[3] ++ msg[4], msg[0])

end Sys2Proof.Machine
end

