-- ==== Sys2Proof/Machine/RedundancyMonitor.lean ====
section
/-! DEFINITION. The redundancy monitor (spec/43_redundancy_monitor.md). -/

namespace Sys2Proof.Machine

/-- `COMPARE(calc, recv)`, the monitored frame (spec/43_redundancy_monitor.md R164): the alarm is the
mismatch of this pair, the indicator follows it, the heartbeat inverts. -/
def compareStep (calculated received : Byte) (r : Regs) : Regs :=
  { r with alarmActive := mismatch calculated received, alarmInd := mismatch calculated received, heartbeatInd := !r.heartbeatInd }

/-- The second half of `MONSTEP`: a settling frame while `SETTLE_REM != 0`, else a monitored one
(spec/43_redundancy_monitor.md R162). -/
def settleOrCompare (calculated received : Byte) (r : Regs) : Regs :=
  if r.settleRem ≠ 0 then { r with settleRem := r.settleRem - 1 } else compareStep calculated received r

/-- `MONSTEP(calc, recv)` (spec/43_redundancy_monitor.md R162). The frame that takes `WARM_REM` from 1 to 0
is handed on to the next window. -/
def monStep (calculated received : Byte) (r : Regs) : Regs :=
  if r.warmRem ≠ 0 then
    if r.warmRem - 1 ≠ 0 then { r with warmRem := r.warmRem - 1 }
    else settleOrCompare calculated received { r with warmRem := r.warmRem - 1 }
  else settleOrCompare calculated received r

end Sys2Proof.Machine
end

