-- ==== Sys2Proof/Machine/Event.lean ====
section
/-! DEFINITION. The EVENT transaction (spec/44_event_readout.md R190 to R198). -/

namespace Sys2Proof.Machine

/-- The stores of the frame path, from the tally to `SESSION_WR` (spec/44_event_readout.md R191). -/
def storeFrame (cfg : Config) (raw : RawCapture) (stat : Nibble) (rcrc : Byte) (r : Regs) : Regs :=
  { r with
    frameCount := r.frameCount + 1
    rawData := raw
    rawStatus := stat
    payPrimary := primaryField raw
    paySecondary := secondaryField raw
    crcCalc := (crc4 cfg (decodeMsg raw stat)).setWidth 8
    crcRecv := rcrc
    sessionWr := true }

/-- The frame path: the stores, then `MONSTEP(CRC_CALC, CRC_RECV)` on the pair just written
(spec/44_event_readout.md R191, R192). -/
def framePath (cfg : Config) (raw : RawCapture) (stat : Nibble) (rcrc : Byte) (r : Regs) : Regs :=
  monStep (storeFrame cfg raw stat rcrc r).crcCalc (storeFrame cfg raw stat rcrc r).crcRecv
    (storeFrame cfg raw stat rcrc r)

/-- EVENT (spec/44_event_readout.md R191): `CLASSIFY` always, the frame path when `FC = 1`, whatever `FLT`
holds (R194). It always completes. -/
def execEvent (flt : BitVec 10) (fc : Bool) (raw : RawCapture) (stat : Nibble) (rcrc : Byte) (s : State) :
    Host.Outcome State Fault Refusal :=
  if fc then done (framePath s.cfg raw stat rcrc (classify flt s.regs)) s
  else done (classify flt s.regs) s

end Sys2Proof.Machine
end

