-- ==== Sys2Proof/Machine/Read.lean ====
section
/-! DEFINITION. The READ transaction and the register map (spec/44_event_readout.md R200,
spec/20_memory.md R51 to R54). -/

namespace Sys2Proof.Machine

/-- The `MONSTAT` word: ALARM bit 0, PHASE bits 2:1, AIND bit 3, HB bit 4 (spec/20_memory.md R53). -/
def monStatWord (r : Regs) : Word :=
  (0#27 ++ BitVec.ofBool r.heartbeatInd ++ BitVec.ofBool r.alarmInd ++ phaseCode (phase r)
    ++ BitVec.ofBool r.alarmActive)

/-- `ReadReg(idx)` (spec/20_memory.md R51, R54). -/
def readReg (n : RegName) (r : Regs) : Word :=
  match n with
  | .errCnt k => r.errCnt.get k
  | .frameCnt => r.frameCount
  | .crcCalc => r.crcCalc.setWidth 32
  | .crcRecv => r.crcRecv.setWidth 32
  | .monStat => monStatWord r
  | .monRem => (r.settleRem ++ r.warmRem).setWidth 32
  | .rawFrame => (r.rawStatus ++ r.rawData).setWidth 32
  | .payload => (r.paySecondary ++ r.payPrimary).setWidth 32

/-- READ (spec/44_event_readout.md R200): a reserved index is refused, then a session word faults before the
first frame, else the word is returned (the order of spec/60_exceptions.md R228). -/
def execRead (reg : BitVec 5) (s : State) : Host.Outcome State Fault Refusal :=
  match regOfIndex reg with
  | none => .refused (.reservedReg reg)
  | some n =>
    if isSessionWord n && !s.regs.sessionWr then .fault (.unwrittenRead reg)
    else doneWith (readReg n s.regs) s

end Sys2Proof.Machine
end

