-- ==== Sys2Proof/Machine/Reset.lean ====
section
/-! DEFINITION. The RESET transaction (spec/70_reset_and_hazards.md R250). -/

namespace Sys2Proof.Machine

/-- The registers after RESET (spec/70_reset_and_hazards.md R250). The session registers "become
unspecified": they hold free values, drawn at index `n` (log 3, DESIGN CHOICE). -/
def resetRegs (cfg : Config) (n : Nat) : Regs :=
  { errCnt       := ErrCnt.tabulate fun _ => 0
    frameCount   := 0
    warmRem      := cfg.wInit
    settleRem    := cfg.sInit
    alarmActive  := false
    alarmInd     := false
    heartbeatInd := false
    sessionWr    := false
    rawData      := Config.unspecRawData n
    rawStatus    := Config.unspecRawStatus n
    payPrimary   := Config.unspecPayPrimary n
    paySecondary := Config.unspecPaySecondary n
    crcCalc      := Config.unspecCrcCalc n
    crcRecv      := Config.unspecCrcRecv n }

/-- RESET (spec/70_reset_and_hazards.md R250). It writes every register from nothing it reads; the free
values are drawn afresh at each RESET. -/
def execReset (s : State) : Host.Outcome State Fault Refusal :=
  done (resetRegs s.cfg (s.resets + 1)) { s with resets := s.resets + 1 }

end Sys2Proof.Machine
end

