-- ==== Sys2Proof/Machine/Dispatch.lean ====
section
/-! DEFINITION. One arm per transaction (spec/30_encoding.md R81). -/

namespace Sys2Proof.Machine

def exec (i : Instr) (s : State) : Host.Outcome State Fault Refusal :=
  match i with
  | .event flt fc raw stat rcrc => Sys2Proof.Machine.execEvent flt fc raw stat rcrc s
  | .read reg => Sys2Proof.Machine.execRead reg s
  | .reset => Sys2Proof.Machine.execReset s

end Sys2Proof.Machine
end

