-- ==== Sys2Proof/Machine/Perform.lean ====
section
/-! DEFINITION. Performing one transaction word: decode first, then the transaction
(spec/60_exceptions.md R228). -/

namespace Sys2Proof.Machine

/-- The outcome of a transaction word at a state: a word that spells no transaction is refused, with the
word recorded (spec/30_encoding.md R76, R77; spec/60_exceptions.md R222, R225, R228). -/
def performWord (w : TxWord) (s : State) : Host.Outcome State Fault Refusal :=
  match decode w with
  | .instr i => exec i s
  | .reservedKind => .refused (.reservedKind w)
  | .reservedBits => .refused (.reservedBits w)

/-- One step: the next transaction of the total order is performed, as one indivisible step
(spec/20_memory.md R57, R60). With none pending the machine waits unchanged
(spec/70_reset_and_hazards.md R253; log 4). -/
def stepTransaction (s : State) : Host.Outcome State Fault Refusal :=
  match takeWord s with
  | none => .next s
  | some (w, t) => performWord w t

end Sys2Proof.Machine
end

