-- ==== Sys2Proof/Machine/Step.lean ====
section
/-! DEFINITION. The machine's step, and the host's way to place a transaction. -/

namespace Sys2Proof.Machine

/-- One step of SENTCORE. -/
def step (s : State) : Host.Outcome State Fault Refusal := stepTransaction s

/-- The state with a transaction word placed where `step` takes its next one: at the head of the inbox
(log 4). Bits above `nbits` are 0. -/
def State.withFetchWord (s : State) (nbits w : Nat) : State :=
  deliverNext (BitVec.ofNat 64 (w % 2 ^ nbits)) s

end Sys2Proof.Machine
end

