-- ==== Sys2Proof/Machine/Assembler.lean ====
section
/-! DEFINITION. The assembler's expansion of lines into transactions (spec/30_encoding.md R83, R84). -/

namespace Sys2Proof.Machine

/-- `FLT` with the bits of the listed kinds set (spec/30_encoding.md R72, R83). -/
def flagBits (flags : List FaultKind) : BitVec 10 :=
  flags.foldl (fun acc k => acc ||| (1#10 <<< faultNumber k)) 0

/-- The checksum an assembler computes for a frame: `zext_8(CRC4(MSG(raw, st)))` (spec/30_encoding.md R84). -/
def frameChecksum (cfg : Config) (raw : RawCapture) (st : Nibble) : Byte :=
  (crc4 cfg (decodeMsg raw st)).setWidth 8

/-- The index of a READ operand (spec/30_encoding.md R83). -/
def operandIndex : ReadOperand → BitVec 5
  | .name r => regIndex r
  | .index i => BitVec.ofNat 5 i

/-- The transaction a line stands for, its values taken to fit (spec/30_encoding.md R83, R84). -/
def expandLine (cfg : Config) : AsmLine → Instr
  | .event flags fc raw st rcrc =>
      .event (flagBits flags) (fc == 1) (BitVec.ofNat 24 raw) (BitVec.ofNat 4 st) (BitVec.ofNat 8 rcrc)
  | .read operand => .read (operandIndex operand)
  | .reset => .reset
  | .idle => .event 0 false 0 0 0
  | .faults flags => .event (flagBits flags) false 0 0 0
  | .frame raw st rcrc => .event 0 true (BitVec.ofNat 24 raw) (BitVec.ofNat 4 st) (BitVec.ofNat 8 rcrc)
  | .frameOk raw st =>
      .event 0 true (BitVec.ofNat 24 raw) (BitVec.ofNat 4 st)
        (frameChecksum cfg (BitVec.ofNat 24 raw) (BitVec.ofNat 4 st))
  | .frameBad raw st =>
      .event 0 true (BitVec.ofNat 24 raw) (BitVec.ofNat 4 st)
        (frameChecksum cfg (BitVec.ofNat 24 raw) (BitVec.ofNat 4 st) ^^^ 0x01)

/-- The transaction of a line; a line with a value that does not fit its field is rejected
(spec/30_encoding.md R83). -/
def assemble (cfg : Config) (l : AsmLine) : Option Instr :=
  if l.wf then some (expandLine cfg l) else none

/-- The word of a line. -/
def assembleWord (cfg : Config) (l : AsmLine) : Option TxWord := (assemble cfg l).map encode

end Sys2Proof.Machine
end

