-- ==== Sys2Proof/Machine/Construct.lean ====
section
/-! DEFINITION. Model construction and its configuration check (spec/00_scope.md R10,
spec/60_exceptions.md R226). -/

namespace Sys2Proof.Machine

/-- The check of spec/00_scope.md R10: the seed is in 0..15, and the table holds sixteen entries, each in
0..15, all different. -/
def checkParams (p : Params) : Option Config :=
  if p.crcSeed < 16 ∧ p.crcTable.all (· < 16) then
    if hl : (p.crcTable.map (BitVec.ofNat 4)).toArray.size = 16 then
      if hn : (Vector.mk (p.crcTable.map (BitVec.ofNat 4)).toArray hl).toList.Nodup then
        some { crcSeed := BitVec.ofNat 4 p.crcSeed, crcTable := Vector.mk _ hl, tablePerm := hn
               wInit := p.wInit, sInit := p.sInit }
      else none
    else none
  else none

/-- Model construction: a configuration that breaks R10 is refused before any transaction, and then there
is no machine at all (spec/60_exceptions.md R226); else the machine at power-on. -/
def construct (p : Params) : Except Refusal State :=
  match checkParams p with
  | none => .error .badConfig
  | some cfg => .ok (State.powerOn cfg)

end Sys2Proof.Machine
end

