-- ==== Sys2Proof/Machine/Run.lean ====
section
/-! DEFINITION. Runs that go on past a stopped transaction, with the mark of spec/60_exceptions.md R221:
`step` answers the outcome of one transaction, `advance` is what a run does with it (log 6). -/

namespace Sys2Proof.Machine

/-- One step of a run: a stopped transaction changes no register and is recorded, and the run goes on
(spec/60_exceptions.md R221). -/
def advance (s : State) : State :=
  match step s with
  | .next t => t
  | .fault f => recordStop (.fault f) s
  | .refused r => recordStop (.refused r) s

/-- `n` steps of a run. -/
def advanceN : Nat → State → State
  | 0, s => s
  | n + 1, s => advanceN n (advance s)

/-- A word that spells an EVENT with frame-complete set: one frame (spec/44_event_readout.md R195). -/
def isFrameWord (w : TxWord) : Bool :=
  match decode w with
  | .instr (.event _ fc _ _ _) => fc
  | .instr (.read _) => false
  | .instr .reset => false
  | .reservedKind => false
  | .reservedBits => false

/-- A word that spells RESET (spec/30_encoding.md R75). -/
def isResetWord (w : TxWord) : Bool :=
  match decode w with
  | .instr (.event _ _ _ _ _) => false
  | .instr (.read _) => false
  | .instr .reset => true
  | .reservedKind => false
  | .reservedBits => false

end Sys2Proof.Machine
end

