-- ==== Sys2Proof/Safety.lean ====
section
/-! DEFINITION. What claims about SENTCORE speak of: the invariant of spec/10_state.md R40, runs in which
nothing stopped, the duties of the agents (spec/44_event_readout.md R204), the counts a run is measured by. -/

namespace Sys2Proof.Machine

/-- The invariants of spec/10_state.md R40 that speak of one state, (a) to (e). -/
structure Inv (s : State) : Prop where
  /-- R40(a) -/
  warm_le : s.regs.warmRem.toNat ≤ s.cfg.wInit.toNat
  /-- R40(a) -/
  settle_le : s.regs.settleRem.toNat ≤ s.cfg.sInit.toNat
  /-- R40(b) -/
  settling_after_warmup : s.regs.settleRem.toNat < s.cfg.sInit.toNat → s.regs.warmRem = 0
  /-- R40(c) -/
  alarm_only_monitoring : s.regs.alarmActive = true → s.regs.warmRem = 0 ∧ s.regs.settleRem = 0
  /-- R40(d) -/
  indicator_follows_alarm : s.regs.alarmInd = s.regs.alarmActive
  /-- R40(e) -/
  session_consistent : s.regs.sessionWr = true →
    s.regs.crcCalc.extractLsb' 4 4 = 0 ∧ s.regs.payPrimary = s.regs.rawData.extractLsb' 0 16 ∧
      s.regs.paySecondary = s.regs.rawData.extractLsb' 16 8

/-- "no fault and no refusal recorded" (spec/60_exceptions.md R221): the premise of a claim about a run. -/
abbrev noStopRecorded (s : State) : Prop := s.firstStop = none

/-- The role the next frame would have (spec/43_redundancy_monitor.md R161). -/
def nextRole (s : State) : FrameRole := frameRole s.regs.warmRem s.regs.settleRem

/-- The checksum CRC4 gives for a frame, zero-extended (spec/40_crc4.md R105). -/
def crcOfFrame (s : State) (raw : RawCapture) (stat : Nibble) : Byte :=
  (crc4 s.cfg (decodeMsg raw stat)).setWidth 8

/-- Each counter whose flag is set rose by 1 modulo `2^32`, and no other changed
(spec/42_error_counters.md R141). -/
abbrev countersRoseBy (flt : BitVec 10) (before after : ErrCnt) : Prop :=
  ∀ k, after.get k = if faultFlag flt k then before.get k + 1 else before.get k

/-- `popcount(FLT)` (spec/00_scope.md R11). -/
def popcount (flt : BitVec 10) : Nat := (List.range 10).countP fun i => flt.getLsbD i

/-- The sum of the ten counters, modulo `2^32` (spec/42_error_counters.md R143). -/
def counterSum (c : ErrCnt) : Word := (allFaultKinds.map c.get).sum

/-- The frames among transaction words (spec/44_event_readout.md R195). -/
def frameTotal (ws : List TxWord) : Nat := ws.countP isFrameWord

/-- No word among these spells RESET. -/
abbrev noReset (ws : List TxWord) : Prop := ws.any isResetWord = false

/-- The number of the first frame after warm-up, `F = max(W, 1)` (spec/43_redundancy_monitor.md R169). -/
def firstAfterWarmup (cfg : Config) : Nat := max cfg.wInit.toNat 1

/-- The six session registers (spec/10_state.md R36). -/
structure Session where
  rawData      : RawCapture
  rawStatus    : Nibble
  payPrimary   : BitVec 16
  paySecondary : Byte
  crcCalc      : Byte
  crcRecv      : Byte
deriving DecidableEq, Repr

/-- The session registers of a register file (spec/10_state.md R36). -/
def sessionOf (r : Regs) : Session :=
  ⟨r.rawData, r.rawStatus, r.payPrimary, r.paySecondary, r.crcCalc, r.crcRecv⟩

/-- The registers with the session registers replaced. -/
def withSession (v : Session) (r : Regs) : Regs :=
  { r with rawData := v.rawData, rawStatus := v.rawStatus, payPrimary := v.payPrimary
           paySecondary := v.paySecondary, crcCalc := v.crcCalc, crcRecv := v.crcRecv }

/-- Two states that differ at most in what the spec leaves unspecified: the session registers while
`SESSION_WR = 0` (spec/10_state.md R36), and the index the model draws them at (log 3). -/
structure AgreeOnSpecified (s t : State) : Prop where
  cfg : s.cfg = t.cfg
  inbox : s.inbox = t.inbox
  rdata : s.rdata = t.rdata
  firstStop : s.firstStop = t.firstStop
  regs : withSession (sessionOf t.regs) s.regs = t.regs
  session : s.regs.sessionWr = true → sessionOf s.regs = sessionOf t.regs

/-- A configuration that meets spec/00_scope.md R10: the seed in 0..15 and the table a permutation of
0..15. -/
abbrev validParams (p : Params) : Prop := p.crcSeed < 16 ∧ p.crcTable.Perm (List.range 16)

/-! The agents and their duties (spec/44_event_readout.md R204). SENTCORE does not check them; a claim
about the system takes them as premises. -/

/-- The agents that issue transactions (spec/00_scope.md R16). -/
inductive Agent where
  | collaborator
  | reader
  | resetSource
deriving DecidableEq, Repr

/-- A word with the agent that issued it. -/
structure Delivery where
  agent : Agent
  word  : TxWord
deriving DecidableEq, Repr

/-- Who may issue a transaction: EVENT the collaborator (R204(a)), READ any agent (R204(c)), RESET only the
system reset source (R204(e)). -/
def mayIssue (a : Agent) (i : Instr) : Bool :=
  match i with
  | .event _ _ _ _ _ => a = .collaborator
  | .read _ => true
  | .reset => a = .resetSource

/-- Every delivery keeps the duties of spec/44_event_readout.md R204. -/
def dutiesKept (ds : List Delivery) : Bool :=
  ds.all fun d =>
    match decode d.word with
    | .instr i => mayIssue d.agent i
    | .reservedKind => true
    | .reservedBits => true

/-- Deliver in the order of the list, one at a time (spec/44_event_readout.md R204(a), (b)). -/
def deliverAll (ds : List Delivery) (s : State) : State := { s with inbox := s.inbox ++ ds.map (·.word) }

end Sys2Proof.Machine
end

