-- ==== Sys2Proof/Certificates/Slice0/Obligations.lean ====
section
/-! DEFINITION. Statements for the provers, from the spec's numbered rules. A statement over every state
holds for every configuration, `CRC_TABLE` included, since the configuration is part of the state. -/

open Sys2Proof Sys2Proof.Machine

/-! ## Steps and runs -/

/-- The next word of the inbox, if it spells a transaction, is performed on the state without that word
(spec/20_memory.md R60). -/
def Obligations.StepPerformsDecodedTransaction : Prop :=
  ∀ (s : State) (w : TxWord) (rest : List TxWord) (i : Instr),
    s.inbox = w :: rest → decode w = .instr i → step s = exec i { s with inbox := rest }

/-- spec/30_encoding.md R76. -/
def Obligations.StepRefusesReservedKind : Prop :=
  ∀ (s : State) (w : TxWord) (rest : List TxWord), s.inbox = w :: rest → w.extractLsb' 62 2 = 0b11#2 →
    (∀ i, decode w ≠ .instr i) ∧ step s = .refused (.reservedKind w) ∧
      (advance s).regs = s.regs ∧ (advance s).cfg = s.cfg

/-- spec/30_encoding.md R77: its reserved bits, and the READ of a reserved index, which decodes. -/
def Obligations.StepRefusesReservedBits : Prop :=
  (∀ (s : State) (w : TxWord) (rest : List TxWord), s.inbox = w :: rest →
    ((w.extractLsb' 62 2 = 0b00#2 ∧ (w.extractLsb' 11 5 ≠ 0 ∨ w.extractLsb' 52 10 ≠ 0)) ∨
      (w.extractLsb' 62 2 = 0b01#2 ∧ w.extractLsb' 5 57 ≠ 0) ∨
      (w.extractLsb' 62 2 = 0b10#2 ∧ w.extractLsb' 0 62 ≠ 0)) →
    (∀ i, decode w ≠ .instr i) ∧ step s = .refused (.reservedBits w) ∧
      (advance s).regs = s.regs ∧ (advance s).cfg = s.cfg) ∧
  (∀ (s : State) (w : TxWord) (rest : List TxWord), s.inbox = w :: rest →
    w.extractLsb' 62 2 = 0b01#2 → w.extractLsb' 5 57 = 0 → 17 ≤ (w.extractLsb' 0 5).toNat →
    decode w = .instr (.read (w.extractLsb' 0 5)) ∧ step s = .refused (.reservedReg (w.extractLsb' 0 5)))

/-- The model's choice (log 4): with no transaction pending the machine waits unchanged. -/
def Obligations.StepWaitsWithoutTransaction : Prop :=
  ∀ s : State, s.inbox = [] → step s = .next s

/-- spec/60_exceptions.md R221: one outcome of three; a stop changes no register; a run records its first
stop in a mark that no later transaction clears. -/
def Obligations.RunRecordsFirstStop : Prop :=
  (∀ s : State, (∃ t, step s = .next t) ∨ (∃ f, step s = .fault f) ∨ ∃ r, step s = .refused r) ∧
  (∀ (s t : State), step s = .next t → advance s = t ∧ t.firstStop = s.firstStop) ∧
  (∀ (s : State) (f : Fault), step s = .fault f →
    (advance s).regs = s.regs ∧ (advance s).firstStop = some (s.firstStop.getD (.fault f))) ∧
  (∀ (s : State) (r : Refusal), step s = .refused r →
    (advance s).regs = s.regs ∧ (advance s).firstStop = some (s.firstStop.getD (.refused r))) ∧
  ∀ (n : Nat) (s : State) (x : Stop), s.firstStop = some x → (advanceN n s).firstStop = some x

/-- spec/60_exceptions.md R228: which stop a transaction reports, with the codes of R222 to R225. -/
def Obligations.StopPriority : Prop :=
  (∀ (s : State) (w : TxWord) (rest : List TxWord), s.inbox = w :: rest →
    (w.extractLsb' 62 2 = 0b11#2 → step s = .refused (.reservedKind w)) ∧
    (w.extractLsb' 62 2 ≠ 0b11#2 → (∀ i, decode w ≠ .instr i) → step s = .refused (.reservedBits w))) ∧
  (∀ (s : State) (reg : BitVec 5),
    (16 < reg.toNat → exec (.read reg) s = .refused (.reservedReg reg)) ∧
    (reg = 11 ∨ reg = 12 ∨ reg = 15 ∨ reg = 16 → s.regs.sessionWr = false →
      exec (.read reg) s = .fault (.unwrittenRead reg))) ∧
  (∀ (s : State) (flt : BitVec 10) (fc : Bool) (raw : RawCapture) (stat : Nibble) (rcrc : Byte),
    ∃ t, exec (.event flt fc raw stat rcrc) s = .next t) ∧
  (∀ s : State, ∃ t, exec .reset s = .next t) ∧
  (∀ (w : TxWord) (reg : BitVec 5), refusalCode (.reservedKind w) = some 1 ∧
    refusalCode (.reservedReg reg) = some 2 ∧ faultCode (.unwrittenRead reg) = 3 ∧
    refusalCode (.reservedBits w) = some 4)

/-- A delivered transaction is the one the next step performs (log 4). -/
def Obligations.DeliveredTransactionRunsNext : Prop :=
  ∀ (s : State) (i : Instr), step (s.withFetchWord 64 (encode i).toNat) = exec i s

/-- spec/20_memory.md R61: only EVENT and RESET write the registers. -/
def Obligations.OnlyEventAndResetWriteRegisters : Prop :=
  ∀ s : State, (advance s).regs ≠ s.regs →
    ∃ w rest, s.inbox = w :: rest ∧
      ((∃ flt fc raw stat rcrc, decode w = .instr (.event flt fc raw stat rcrc)) ∨ decode w = .instr .reset)

/-- spec/10_state.md R38: the configuration is fixed along every run. -/
def Obligations.NoTransactionWritesConfiguration : Prop :=
  ∀ (n : Nat) (s : State), (advanceN n s).cfg = s.cfg

/-! ## Encoding -/

/-- Words of spec/30_encoding.md section 6, and the all-ones EVENT. -/
def Obligations.DecodeReadsSpecWords : Prop :=
  decode 0x0000671234560400 = .instr (.event 0 true 0x123456 0x7 0x06) ∧
  decode 0x0000000000000048 = .instr (.event 0x048 false 0 0 0) ∧
  decode 0x400000000000000D = .instr (.read 13) ∧
  decode 0x4000000000000011 = .instr (.read 17) ∧
  decode 0x8000000000000000 = .instr .reset ∧
  decode 0xC000000000000000 = .reservedKind ∧
  decode 0x0000000000000800 = .reservedBits ∧
  decode 0x000FFFFFFFFF07FF = .instr (.event 0x3FF true 0xFFFFFF 0xF 0xFF)

/-- Decoding an encoded transaction gives it back, every operand at every value. -/
def Obligations.DecodeOfEncode : Prop :=
  ∀ i : Instr, decode (encode i) = .instr i

/-- Each transaction has one word: a word that decodes is the encoding of what it decodes to. -/
def Obligations.EncodeOfDecode : Prop :=
  ∀ (w : TxWord) (i : Instr), decode w = .instr i → encode i = w

/-- spec/30_encoding.md R81: the opcode map decides which words are transactions, and of which row. -/
def Obligations.OpcodeMapDecidesDecoding : Prop :=
  opcodeTable = [⟨"EVENT", 0x0000000000000000, 0xFFF000000000F800⟩,
    ⟨"READ", 0x4000000000000000, 0xFFFFFFFFFFFFFFE0⟩, ⟨"RESET", 0x8000000000000000, 0xFFFFFFFFFFFFFFFF⟩] ∧
  (∀ w : TxWord, (∃ r ∈ opcodeTable, w &&& r.mask = r.pattern) ↔ ∃ i, decode w = .instr i) ∧
  (∀ (w : TxWord) (i : Instr), decode w = .instr i →
    opcodeRowOf i ∈ opcodeTable ∧ w &&& (opcodeRowOf i).mask = (opcodeRowOf i).pattern) ∧
  (∀ (s : State) (w : TxWord) (rest : List TxWord), s.inbox = w :: rest →
    (∀ r ∈ opcodeTable, w &&& r.mask ≠ r.pattern) →
    step s = .refused (.reservedKind w) ∨ step s = .refused (.reservedBits w)) ∧
  ∀ (w : TxWord) (r₁ r₂ : OpcodeRow), r₁ ∈ opcodeTable → r₂ ∈ opcodeTable →
    w &&& r₁.mask = r₁.pattern → w &&& r₂.mask = r₂.pattern → r₁ = r₂

/-- spec/30_encoding.md R84 with spec/43_redundancy_monitor.md R164: on a monitored frame FRAMEOK leaves the
alarm clear and FRAMEBAD sets it, under every configuration. -/
def Obligations.AssembledFramesDecideAlarm : Prop :=
  ∀ (s : State) (raw st : Nat), raw < 2 ^ 24 → st < 2 ^ 4 → nextRole s = .monitoredFrame →
    ∃ good bad t u, assemble s.cfg (.frameOk raw st) = some good ∧ assemble s.cfg (.frameBad raw st) = some bad ∧
      exec good s = .next t ∧ t.regs.alarmActive = false ∧ t.regs.alarmInd = false ∧
      exec bad s = .next u ∧ u.regs.alarmActive = true ∧ u.regs.alarmInd = true

/-! ## CRC-4 engine -/

/-- spec/40_crc4.md R103: seven steps, `MSG[0]` first, nothing after the seventh. -/
def Obligations.Crc4IsSevenStepsInOrder : Prop :=
  ∀ (cfg : Config) (m : Msg),
    crc4 cfg m =
      crcTableAt cfg (crcTableAt cfg (crcTableAt cfg (crcTableAt cfg (crcTableAt cfg (crcTableAt cfg
        (crcTableAt cfg (cfg.crcSeed ^^^ m[0]) ^^^ m[1]) ^^^ m[2]) ^^^ m[3]) ^^^ m[4]) ^^^ m[5]) ^^^ m[6])

/-- spec/40_crc4.md R107, for every permutation table: the result is a nibble, one changed nibble always
changes it, and the last nibble determines it one to one. -/
def Obligations.Crc4DetectsSingleNibbleChange : Prop :=
  (∀ (cfg : Config) (m : Msg), (crc4 cfg m).toNat ≤ 15) ∧
  (∀ (cfg : Config) (m : Msg) (i : Fin 7) (x : Nibble), x ≠ m[i] → crc4 cfg (m.set i x) ≠ crc4 cfg m) ∧
  ∀ (cfg : Config) (m : Msg), Function.Bijective fun x : Nibble => crc4 cfg (m.set 6 x)

/-- spec/40_crc4.md section of R108: with the default table CRC4 is affine. That table is PRESUMED (log 2). -/
def Obligations.Crc4AffineForReferenceTable : Prop :=
  ∀ (cfg : Config) (a b : Msg), cfg.crcTable = Config.refTable →
    crc4 cfg (Vector.zipWith (· ^^^ ·) a b) =
      crc4 cfg a ^^^ crc4 cfg b ^^^ crc4 cfg (Vector.replicate 7 0)

/-- spec/40_crc4.md R106: the byte-level interface faults at the first byte above `0x0F`, and else is the
zero-extended CRC of the low nibbles. -/
def Obligations.Crc4BytesFaultsOnWideByte : Prop :=
  (∀ (cfg : Config) (b : Vector Byte 7) (i : Fin 7), 0x0F < b[i].toNat → (∀ j : Fin 7, j < i → b[j].toNat ≤ 0x0F) →
    crc4Bytes cfg b = .error (.invalidFrame i.val)) ∧
  ∀ (cfg : Config) (b : Vector Byte 7), (∀ i : Fin 7, b[i].toNat ≤ 0x0F) →
    crc4Bytes cfg b = .ok ((crc4 cfg #v[b[0].extractLsb' 0 4, b[1].extractLsb' 0 4, b[2].extractLsb' 0 4,
      b[3].extractLsb' 0 4, b[4].extractLsb' 0 4, b[5].extractLsb' 0 4, b[6].extractLsb' 0 4]).setWidth 8)

/-! ## Frame decoder -/

/-- spec/41_frame_decoder.md R126: the reorder is a bijection, re-decoding gives the same payload, and every
message can be fed to CRC4 through an EVENT. -/
def Obligations.CanonicalMessageRoundTrip : Prop :=
  (∀ (raw : RawCapture) (stat : Nibble), encodeFrame (decodeMsg raw stat) = (raw, stat)) ∧
  ∀ m : Msg, decodeMsg (encodeFrame m).1 (encodeFrame m).2 = m ∧
    primaryField (encodeFrame m).1 = m[1] ++ m[2] ++ m[3] ++ m[4] ∧
    secondaryField (encodeFrame m).1 = m[5] ++ m[6] ∧
    ∀ (s : State) (flt : BitVec 10) (rcrc : Byte),
      ∃ t, exec (.event flt true (encodeFrame m).1 (encodeFrame m).2 rcrc) s = .next t ∧
        t.regs.crcCalc = (crc4 s.cfg m).setWidth 8

/-- spec/41_frame_decoder.md R125. -/
def Obligations.PayloadReadFromCanonicalMessage : Prop :=
  ∀ (raw : RawCapture) (stat : Nibble),
    primaryField raw = (decodeMsg raw stat)[1] ++ (decodeMsg raw stat)[2] ++ (decodeMsg raw stat)[3]
      ++ (decodeMsg raw stat)[4] ∧
    secondaryField raw = (decodeMsg raw stat)[5] ++ (decodeMsg raw stat)[6]

/-! ## EVENT -/

/-- spec/44_event_readout.md R191: every EVENT completes, with these registers written and no other. The last
part is its worked example, which it gives for the default table (PRESUMED, log 2): that table is a premise
of this part alone. -/
def Obligations.EventEffect : Prop :=
  (∀ (s : State) (flt : BitVec 10) (raw : RawCapture) (stat : Nibble) (rcrc : Byte),
    ∃ t, exec (.event flt false raw stat rcrc) s = .next t ∧
      countersRoseBy flt s.regs.errCnt t.regs.errCnt ∧
      t = { s with regs := { s.regs with errCnt := t.regs.errCnt }, rdata := t.rdata }) ∧
  (∀ (s : State) (flt : BitVec 10) (raw : RawCapture) (stat : Nibble) (rcrc : Byte),
    ∃ t, exec (.event flt true raw stat rcrc) s = .next t ∧
      countersRoseBy flt s.regs.errCnt t.regs.errCnt ∧
      t.regs.frameCount = s.regs.frameCount + 1 ∧ t.regs.rawData = raw ∧ t.regs.rawStatus = stat ∧
      t.regs.payPrimary = raw.extractLsb' 0 16 ∧ t.regs.paySecondary = raw.extractLsb' 16 8 ∧
      t.regs.crcCalc = crcOfFrame s raw stat ∧ t.regs.crcRecv = rcrc ∧ t.regs.sessionWr = true ∧
      t = { s with regs := t.regs, rdata := t.rdata } ∧
      (nextRole s = .warmupFrame →
        t.regs.warmRem = s.regs.warmRem - 1 ∧ t.regs.settleRem = s.regs.settleRem ∧
        t.regs.alarmActive = s.regs.alarmActive ∧ t.regs.alarmInd = s.regs.alarmInd ∧
        t.regs.heartbeatInd = s.regs.heartbeatInd) ∧
      (nextRole s = .settleFrame →
        t.regs.warmRem = 0 ∧ t.regs.settleRem = s.regs.settleRem - 1 ∧
        t.regs.alarmActive = s.regs.alarmActive ∧ t.regs.alarmInd = s.regs.alarmInd ∧
        t.regs.heartbeatInd = s.regs.heartbeatInd) ∧
      (nextRole s = .monitoredFrame →
        t.regs.warmRem = 0 ∧ t.regs.settleRem = 0 ∧
        t.regs.alarmActive = decide (crcOfFrame s raw stat ≠ rcrc) ∧ t.regs.alarmInd = t.regs.alarmActive ∧
        t.regs.heartbeatInd = !s.regs.heartbeatInd)) ∧
  ∀ cfg : Config, cfg.crcTable = Config.refTable → cfg.crcSeed = 0x5#4 → cfg.wInit = 3 →
    ∃ t, exec (.event 0 true 0x123456 0x7 0x06) (State.powerOn cfg) = .next t ∧
    t.regs.frameCount = 1 ∧ t.regs.crcCalc = 0x06 ∧ t.regs.crcRecv = 0x06 ∧ t.regs.payPrimary = 0x3456 ∧
    t.regs.paySecondary = 0x12 ∧ t.regs.warmRem = 2

/-- spec/42_error_counters.md R143: the flags are independent, and the sum of the counters rises by
`popcount(FLT)`. -/
def Obligations.EventCounterSumRisesByPopcount : Prop :=
  ∀ (s : State) (flt : BitVec 10) (fc : Bool) (raw : RawCapture) (stat : Nibble) (rcrc : Byte),
    ∃ t, exec (.event flt fc raw stat rcrc) s = .next t ∧
      (∀ k, faultFlag flt k = true → t.regs.errCnt.get k = s.regs.errCnt.get k + 1) ∧
      counterSum t.regs.errCnt = counterSum s.regs.errCnt + BitVec.ofNat 32 (popcount flt)

/-- spec/44_event_readout.md R197. -/
def Obligations.EmptyEventChangesNoState : Prop :=
  ∀ (s : State) (raw : RawCapture) (stat : Nibble) (rcrc : Byte),
    ∃ t, exec (.event 0 false raw stat rcrc) s = .next t ∧ t.regs = s.regs ∧ t.cfg = s.cfg

/-- spec/30_encoding.md R73: without frame-complete the frame fields have no effect and are not refused. -/
def Obligations.EventIgnoresFrameFieldsWithoutFC : Prop :=
  ∀ (s : State) (flt : BitVec 10) (raw raw' : RawCapture) (stat stat' : Nibble) (rcrc rcrc' : Byte),
    exec (.event flt false raw stat rcrc) s = exec (.event flt false raw' stat' rcrc') s ∧
    decode (encode (.event flt false raw stat rcrc)) = .instr (.event flt false raw stat rcrc)

/-- spec/44_event_readout.md R194: two EVENTs that differ in their fault flags alone leave all but the
error counters alike, and with `FC = 1` the frame is processed under either. -/
def Obligations.FramePathIgnoresFaultFlags : Prop :=
  ∀ (s : State) (flt flt' : BitVec 10) (fc : Bool) (raw : RawCapture) (stat : Nibble) (rcrc : Byte),
    ∃ t t', exec (.event flt fc raw stat rcrc) s = .next t ∧ exec (.event flt' fc raw stat rcrc) s = .next t' ∧
      t' = { t with regs := { t.regs with errCnt := t'.regs.errCnt } } ∧
      (fc = true → t.regs = { framePath s.cfg raw stat rcrc s.regs with errCnt := t.regs.errCnt })

/-- spec/44_event_readout.md R192, its first part: running CLASSIFY before or after the frame path leaves
the same registers. -/
def Obligations.ClassifyCommutesWithFramePath : Prop :=
  ∀ (cfg : Config) (r : Regs) (flt : BitVec 10) (raw : RawCapture) (stat : Nibble) (rcrc : Byte),
    framePath cfg raw stat rcrc (classify flt r) = classify flt (framePath cfg raw stat rcrc r)

/-! ## Redundancy monitor -/

/-- spec/43_redundancy_monitor.md R163: a warm-up or settling frame stores its pair and compares nothing,
so the received checksum has no other effect. -/
def Obligations.SuppressedFramesCompareNothing : Prop :=
  ∀ (s : State) (flt : BitVec 10) (raw : RawCapture) (stat : Nibble) (rcrc rcrc' : Byte),
    nextRole s ≠ .monitoredFrame →
    ∃ t t', exec (.event flt true raw stat rcrc) s = .next t ∧ exec (.event flt true raw stat rcrc') s = .next t' ∧
      t.regs.alarmActive = s.regs.alarmActive ∧ t.regs.alarmInd = s.regs.alarmInd ∧
      t.regs.heartbeatInd = s.regs.heartbeatInd ∧
      t.regs.crcCalc = crcOfFrame s raw stat ∧ t.regs.crcRecv = rcrc ∧
      t' = { t with regs := { t.regs with crcRecv := rcrc' } }

/-- spec/43_redundancy_monitor.md R164: all 8 bits are compared, the indicator follows, the heartbeat
inverts whether or not they match. -/
def Obligations.MonitoredFrameDecidesAlarm : Prop :=
  ∀ (s : State) (flt : BitVec 10) (raw : RawCapture) (stat : Nibble) (rcrc : Byte),
    nextRole s = .monitoredFrame →
    ∃ t, exec (.event flt true raw stat rcrc) s = .next t ∧
      (t.regs.alarmActive = true ↔ crcOfFrame s raw stat ≠ rcrc) ∧
      t.regs.alarmInd = t.regs.alarmActive ∧ t.regs.heartbeatInd = !s.regs.heartbeatInd ∧
      (0x0F < rcrc.toNat → t.regs.alarmActive = true)

/-- spec/43_redundancy_monitor.md R165: the alarm after a monitored frame depends only on that frame's pair,
and is set iff the two differ. Nothing else is the same in the two runs: not the history, not the
configuration, not the frame that carried the pair. -/
def Obligations.AlarmIsFrameLocal : Prop :=
  ∀ (s₁ s₂ : State) (flt₁ flt₂ : BitVec 10) (raw₁ raw₂ : RawCapture) (stat₁ stat₂ : Nibble) (rcrc : Byte),
    crcOfFrame s₁ raw₁ stat₁ = crcOfFrame s₂ raw₂ stat₂ →
    nextRole s₁ = .monitoredFrame → nextRole s₂ = .monitoredFrame →
    ∃ t₁ t₂, exec (.event flt₁ true raw₁ stat₁ rcrc) s₁ = .next t₁ ∧
      exec (.event flt₂ true raw₂ stat₂ rcrc) s₂ = .next t₂ ∧
      t₁.regs.alarmActive = t₂.regs.alarmActive ∧ t₁.regs.alarmInd = t₂.regs.alarmInd ∧
      (t₁.regs.alarmActive = true ↔ crcOfFrame s₁ raw₁ stat₁ ≠ rcrc)

/-- spec/43_redundancy_monitor.md R168, its nine rows. The premise is the invariant of
`StepKeepsInvariant`: rows that end in MONITORING.OK without a comparison rest on R40(c). -/
def Obligations.MonitorTransitionTable : Prop :=
  ∀ (s : State) (flt : BitVec 10) (raw : RawCapture) (stat : Nibble) (rcrc : Byte), Inv s →
    ∃ t, exec (.event flt true raw stat rcrc) s = .next t ∧
      (phase s.regs = .warmup → 2 ≤ s.regs.warmRem.toNat →
        phase t.regs = .warmup ∧ t.regs.warmRem = s.regs.warmRem - 1 ∧ t.regs.settleRem = s.regs.settleRem ∧
        t.regs.alarmActive = s.regs.alarmActive ∧ t.regs.alarmInd = s.regs.alarmInd ∧
        t.regs.heartbeatInd = s.regs.heartbeatInd) ∧
      (phase s.regs = .warmup → s.regs.warmRem = 1 → 2 ≤ s.regs.settleRem.toNat →
        phase t.regs = .settling ∧ t.regs.warmRem = 0 ∧ t.regs.settleRem = s.regs.settleRem - 1 ∧
        t.regs.alarmActive = s.regs.alarmActive ∧ t.regs.alarmInd = s.regs.alarmInd ∧
        t.regs.heartbeatInd = s.regs.heartbeatInd) ∧
      (phase s.regs = .warmup → s.regs.warmRem = 1 → s.regs.settleRem = 1 →
        phase t.regs = .monitoringOk ∧ t.regs.warmRem = 0 ∧ t.regs.settleRem = 0 ∧
        t.regs.alarmActive = s.regs.alarmActive ∧ t.regs.alarmInd = s.regs.alarmInd ∧
        t.regs.heartbeatInd = s.regs.heartbeatInd) ∧
      (phase s.regs = .warmup → s.regs.warmRem = 1 → s.regs.settleRem = 0 → crcOfFrame s raw stat = rcrc →
        phase t.regs = .monitoringOk ∧ t.regs.warmRem = 0 ∧ t.regs.settleRem = 0 ∧
        t.regs.alarmActive = false ∧ t.regs.alarmInd = false ∧
        t.regs.heartbeatInd = !s.regs.heartbeatInd) ∧
      (phase s.regs = .warmup → s.regs.warmRem = 1 → s.regs.settleRem = 0 → crcOfFrame s raw stat ≠ rcrc →
        phase t.regs = .monitoringAlarm ∧ t.regs.warmRem = 0 ∧ t.regs.settleRem = 0 ∧
        t.regs.alarmActive = true ∧ t.regs.alarmInd = true ∧
        t.regs.heartbeatInd = !s.regs.heartbeatInd) ∧
      (phase s.regs = .settling → 2 ≤ s.regs.settleRem.toNat →
        phase t.regs = .settling ∧ t.regs.warmRem = s.regs.warmRem ∧
        t.regs.settleRem = s.regs.settleRem - 1 ∧ t.regs.alarmActive = s.regs.alarmActive ∧
        t.regs.alarmInd = s.regs.alarmInd ∧ t.regs.heartbeatInd = s.regs.heartbeatInd) ∧
      (phase s.regs = .settling → s.regs.settleRem = 1 →
        phase t.regs = .monitoringOk ∧ t.regs.warmRem = s.regs.warmRem ∧ t.regs.settleRem = 0 ∧
        t.regs.alarmActive = s.regs.alarmActive ∧ t.regs.alarmInd = s.regs.alarmInd ∧
        t.regs.heartbeatInd = s.regs.heartbeatInd) ∧
      (phase s.regs = .monitoringOk ∨ phase s.regs = .monitoringAlarm → crcOfFrame s raw stat = rcrc →
        phase t.regs = .monitoringOk ∧ t.regs.warmRem = s.regs.warmRem ∧ t.regs.settleRem = s.regs.settleRem ∧
        t.regs.alarmActive = false ∧ t.regs.alarmInd = false ∧
        t.regs.heartbeatInd = !s.regs.heartbeatInd) ∧
      (phase s.regs = .monitoringOk ∨ phase s.regs = .monitoringAlarm → crcOfFrame s raw stat ≠ rcrc →
        phase t.regs = .monitoringAlarm ∧ t.regs.warmRem = s.regs.warmRem ∧
        t.regs.settleRem = s.regs.settleRem ∧ t.regs.alarmActive = true ∧ t.regs.alarmInd = true ∧
        t.regs.heartbeatInd = !s.regs.heartbeatInd)

/-- spec/43_redundancy_monitor.md R166, along every run: with both windows over, every later frame is a
monitored one until a RESET, and RESET puts the windows back. -/
def Obligations.MonitoringLastsUntilReset : Prop :=
  (∀ (n : Nat) (s : State), s.regs.warmRem = 0 → s.regs.settleRem = 0 → noReset (s.inbox.take n) →
    nextRole (advanceN n s) = .monitoredFrame ∧
      (advanceN n s).regs.warmRem = 0 ∧ (advanceN n s).regs.settleRem = 0) ∧
  ∀ s : State, ∃ t, exec .reset s = .next t ∧ t.regs.warmRem = s.cfg.wInit ∧ t.regs.settleRem = s.cfg.sInit

/-- From spec/43_redundancy_monitor.md R169, for every configuration and every history without RESET: the
number of the next frame decides its role. The last clause, on the phase, has the premise `S_INIT >= 1`,
which R169 does not state (log 11). -/
def Obligations.FrameNumbersFixTheRole : Prop :=
  ∀ (n : Nat) (s : State), s.regs.warmRem = s.cfg.wInit → s.regs.settleRem = s.cfg.sInit →
    noReset (s.inbox.take n) →
    (frameTotal (s.inbox.take n) + 1 ≤ s.cfg.wInit.toNat - 1 → nextRole (advanceN n s) = .warmupFrame) ∧
    (firstAfterWarmup s.cfg ≤ frameTotal (s.inbox.take n) + 1 →
      frameTotal (s.inbox.take n) + 1 ≤ firstAfterWarmup s.cfg + s.cfg.sInit.toNat - 1 →
      nextRole (advanceN n s) = .settleFrame) ∧
    (firstAfterWarmup s.cfg + s.cfg.sInit.toNat ≤ frameTotal (s.inbox.take n) + 1 →
      nextRole (advanceN n s) = .monitoredFrame) ∧
    (1 ≤ s.cfg.sInit.toNat →
      firstAfterWarmup s.cfg + s.cfg.sInit.toNat - 1 ≤ frameTotal (s.inbox.take n) →
      phase (advanceN n s).regs = .monitoringOk ∨ phase (advanceN n s).regs = .monitoringAlarm)

/-- spec/10_state.md R40(f), (g), over every history without RESET: the tally counts the frames, and the
heartbeat the monitored ones modulo 2. -/
def Obligations.TallyAndHeartbeatCountFrames : Prop :=
  ∀ (n : Nat) (s : State), noReset (s.inbox.take n) →
    (advanceN n s).regs.frameCount = s.regs.frameCount + BitVec.ofNat 32 (frameTotal (s.inbox.take n)) ∧
    (s.regs.warmRem = s.cfg.wInit → s.regs.settleRem = s.cfg.sInit →
      (advanceN n s).regs.heartbeatInd =
        (s.regs.heartbeatInd ^^ decide ((frameTotal (s.inbox.take n) -
          (firstAfterWarmup s.cfg + s.cfg.sInit.toNat - 1)) % 2 = 1)))

/-- From spec/70_reset_and_hazards.md R257, with the premise that no RESET comes between, which R257 does not
state (log 12): when the two FRAMECNT reads around some transactions agree, and these
hold fewer than `2^32` frames and no RESET, there was no frame between, and the session registers stood
still all the while. -/
def Obligations.TornTelemetryDetected : Prop :=
  ∀ (s : State) (ws rest : List TxWord),
    s.inbox = encode (.read 10) :: (ws ++ encode (.read 10) :: rest) → noReset ws → frameTotal ws < 2 ^ 32 →
    (advance s).rdata = (advanceN (ws.length + 2) s).rdata →
    frameTotal ws = 0 ∧
      ∀ j, j ≤ ws.length + 2 → sessionOf (advanceN j s).regs = sessionOf s.regs

/-! ## READ -/

/-- spec/20_memory.md R51, indices 0 to 12. -/
def Obligations.ReadReturnsCountersAndChecksums : Prop :=
  ∀ s : State,
    (∀ k : FaultKind, exec (.read (BitVec.ofNat 5 (faultNumber k))) s =
      .next { s with rdata := some (s.regs.errCnt.get k) }) ∧
    exec (.read 10) s = .next { s with rdata := some s.regs.frameCount } ∧
    (s.regs.sessionWr = true →
      exec (.read 11) s = .next { s with rdata := some (s.regs.crcCalc.setWidth 32) } ∧
      exec (.read 12) s = .next { s with rdata := some (s.regs.crcRecv.setWidth 32) })

/-- spec/20_memory.md R53: the fields of `MONSTAT`. -/
def Obligations.ReadMonStatFields : Prop :=
  ∀ s : State, ∃ v : Word, exec (.read 13) s = .next { s with rdata := some v } ∧
    v.getLsbD 0 = s.regs.alarmActive ∧
    (phase s.regs = .warmup → v.extractLsb' 1 2 = 0b00#2) ∧
    (phase s.regs = .settling → v.extractLsb' 1 2 = 0b01#2) ∧
    (phase s.regs = .monitoringOk ∨ phase s.regs = .monitoringAlarm → v.extractLsb' 1 2 = 0b10#2) ∧
    v.extractLsb' 1 2 ≠ 0b11#2 ∧
    v.getLsbD 3 = s.regs.alarmInd ∧ v.getLsbD 4 = s.regs.heartbeatInd ∧ v.extractLsb' 5 27 = 0

/-- spec/20_memory.md R54: the fields of `MONREM`, `RAWFRAME` and `PAYLOAD`. Its last sentence rests on the
invariant of `StepKeepsInvariant`, a premise of that part alone. -/
def Obligations.ReadPackedWordFields : Prop :=
  (∀ s : State, ∃ v : Word, exec (.read 14) s = .next { s with rdata := some v } ∧
    v.extractLsb' 0 8 = s.regs.warmRem ∧ v.extractLsb' 8 8 = s.regs.settleRem ∧ v.extractLsb' 16 16 = 0) ∧
  (∀ s : State, s.regs.sessionWr = true →
    ∃ v w : Word, exec (.read 15) s = .next { s with rdata := some v } ∧
      v.extractLsb' 0 24 = s.regs.rawData ∧ v.extractLsb' 24 4 = s.regs.rawStatus ∧ v.extractLsb' 28 4 = 0 ∧
      exec (.read 16) s = .next { s with rdata := some w } ∧
      w.extractLsb' 0 16 = s.regs.payPrimary ∧ w.extractLsb' 16 8 = s.regs.paySecondary ∧
      w.extractLsb' 24 8 = 0 ∧
      (Inv s → w.extractLsb' 0 24 = v.extractLsb' 0 24))

/-- spec/60_exceptions.md R224. -/
def Obligations.ReadUnwrittenSessionFaults : Prop :=
  ∀ (s : State) (reg : BitVec 5), reg = 11 ∨ reg = 12 ∨ reg = 15 ∨ reg = 16 → s.regs.sessionWr = false →
    exec (.read reg) s = .fault (.unwrittenRead reg) ∧ faultCode (.unwrittenRead reg) = 3 ∧
      (advance (deliverNext (encode (.read reg)) s)).regs = s.regs ∧
      (advance (deliverNext (encode (.read reg)) s)).rdata = none

/-- spec/20_memory.md R52. -/
def Obligations.ReadReservedIndexRefused : Prop :=
  ∀ (s : State) (reg : BitVec 5), 17 ≤ reg.toNat →
    exec (.read reg) s = .refused (.reservedReg reg) ∧
      (advance (deliverNext (encode (.read reg)) s)).regs = s.regs ∧
      (advance (deliverNext (encode (.read reg)) s)).rdata = none

/-- spec/20_memory.md R58: a READ of a defined index returns one word in one step, writes no state, and
returns the same word when repeated; only the unwritten session words fault. -/
def Obligations.ReadCompletesAndWritesNothing : Prop :=
  ∀ (s : State) (reg : BitVec 5), reg.toNat ≤ 16 →
    (s.regs.sessionWr = true ∨ reg ∉ [11, 12, 15, 16] →
      ∃ v : Word, exec (.read reg) s = .next { s with rdata := some v } ∧
        exec (.read reg) { s with rdata := some v } = .next { s with rdata := some v } ∧
        (reg = 11 ∨ reg = 12 → v.toNat < 2 ^ 8) ∧ (reg = 13 → v.toNat < 2 ^ 5) ∧
        (reg = 14 → v.toNat < 2 ^ 16) ∧ (reg = 15 → v.toNat < 2 ^ 28) ∧ (reg = 16 → v.toNat < 2 ^ 24)) ∧
    (s.regs.sessionWr = false ∧ reg ∈ [11, 12, 15, 16] → exec (.read reg) s = .fault (.unwrittenRead reg))

/-! ## RESET -/

/-- spec/70_reset_and_hazards.md R250: what RESET writes, that the session registers then hold no value, and
its one word. -/
def Obligations.ResetWritesEveryRegister : Prop :=
  ∀ s : State, ∃ t, exec .reset s = .next t ∧
    (∀ k, t.regs.errCnt.get k = 0) ∧ t.regs.frameCount = 0 ∧ t.regs.warmRem = s.cfg.wInit ∧
    t.regs.settleRem = s.cfg.sInit ∧ t.regs.alarmActive = false ∧ t.regs.alarmInd = false ∧
    t.regs.heartbeatInd = false ∧ t.regs.sessionWr = false ∧
    t.cfg = s.cfg ∧ t.inbox = s.inbox ∧ t.firstStop = s.firstStop ∧
    (∀ reg : BitVec 5, reg ∈ [11, 12, 15, 16] → exec (.read reg) t = .fault (.unwrittenRead reg)) ∧
    (s.cfg.wInit = 3 → s.cfg.sInit = 3 → exec (.read 14) t = .next { t with rdata := some 0x00000303 }) ∧
    ∀ w : TxWord, w.extractLsb' 62 2 = 0b10#2 →
      decode w = if w = 0x8000000000000000#64 then .instr .reset else .reservedBits

/-- spec/70_reset_and_hazards.md R251: power-on and RESET leave the same registers, but for the session
registers, which are unspecified: the model draws a free value for them at each reset (log 3). -/
def Obligations.ResetIsPowerOnAgain : Prop :=
  ∀ s : State, ∃ t, exec .reset s = .next t ∧
    withSession (sessionOf t.regs) (State.powerOn s.cfg).regs = t.regs ∧
    (s = State.powerOn s.cfg → AgreeOnSpecified t s)

/-- spec/70_reset_and_hazards.md R252, with the counting and wrap of spec/10_state.md R24 and R29 and the
"never increases" of R25 and R26: no transaction but RESET moves a counter or the tally otherwise than up by
1, raises a window, or returns the monitor to WARMUP. -/
def Obligations.OnlyResetGoesBack : Prop :=
  ∀ s : State, noReset (s.inbox.take 1) →
    (∀ k, (advance s).regs.errCnt.get k = s.regs.errCnt.get k ∨
      (advance s).regs.errCnt.get k = s.regs.errCnt.get k + 1) ∧
    ((advance s).regs.frameCount = s.regs.frameCount ∨
      (advance s).regs.frameCount = s.regs.frameCount + 1) ∧
    (advance s).regs.warmRem.toNat ≤ s.regs.warmRem.toNat ∧
    (advance s).regs.settleRem.toNat ≤ s.regs.settleRem.toNat ∧
    (phase (advance s).regs = .warmup → phase s.regs = .warmup)

/-! ## Whole machine -/

/-- The invariant of spec/10_state.md R40(a) to (e) holds at power-on, under every configuration. -/
def Obligations.InvariantAtPowerOn : Prop :=
  Inv State.reset ∧ ∀ cfg : Config, Inv (State.powerOn cfg)

/-- The invariant of spec/10_state.md R40(a) to (e) is kept by every step, from every state that has it. -/
def Obligations.StepKeepsInvariant : Prop :=
  ∀ s t : State, Inv s → step s = .next t → Inv t

/-- spec/10_state.md R36: what the session registers hold before the first frame is never observed. Two
machines that differ in it alone stay alike along every run, in all that is specified. -/
def Obligations.UnspecifiedSessionNeverObserved : Prop :=
  ∀ (n : Nat) (s t : State), AgreeOnSpecified s t → AgreeOnSpecified (advanceN n s) (advanceN n t)

/-- spec/60_exceptions.md R226: model construction refuses a configuration exactly when it breaks R10; a
good one gives the machine at power-on with those parameters. -/
def Obligations.BadConfigurationRefused : Prop :=
  ∀ p : Params, (construct p = .error .badConfig ↔ ¬ validParams p) ∧
    (validParams p → ∃ cfg : Config, construct p = .ok (State.powerOn cfg) ∧
      cfg.crcSeed.toNat = p.crcSeed ∧ cfg.crcTable.toList.map BitVec.toNat = p.crcTable ∧
      cfg.wInit = p.wInit ∧ cfg.sInit = p.sInit)
end

