-- ==== Sys2Proof/Laws/Crc4.lean ====
section
/-! SUPPORT. The CRC step under any permutation table. -/

namespace Sys2Proof.Machine

/-- A permutation table takes different nibbles to different entries (spec/00_scope.md R10). -/
theorem crcTableAt_injective (cfg : Config) : Function.Injective (crcTableAt cfg) := by
  intro x y h
  have hx : x.toNat < cfg.crcTable.toList.length := by simpa using x.isLt
  have hy : y.toNat < cfg.crcTable.toList.length := by simpa using y.isLt
  have hi : cfg.crcTable.toList[x.toNat] = cfg.crcTable.toList[y.toNat] := by
    simpa [crcTableAt] using h
  exact BitVec.eq_of_toNat_eq ((cfg.tablePerm.getElem_inj_iff (hi := hx) (hj := hy)).mp hi)

/-- With the nibble fixed, a CRC step is one to one in the accumulator. -/
theorem crcStep_injective_acc (cfg : Config) (m : Nibble) : Function.Injective fun acc => crcStep cfg acc m :=
  fun _ _ h => (BitVec.xor_left_inj m).mp (crcTableAt_injective cfg h)

/-- With the accumulator fixed, a CRC step is one to one in the nibble. -/
theorem crcStep_injective_nibble (cfg : Config) (acc : Nibble) : Function.Injective (crcStep cfg acc) :=
  fun _ _ h => (BitVec.xor_right_inj acc).mp (crcTableAt_injective cfg h)

/-- With the nibbles fixed, the CRC loop is one to one in the accumulator it starts from. -/
theorem crcFold_injective_acc (cfg : Config) (ms : List Nibble) :
    Function.Injective fun acc => ms.foldl (crcStep cfg) acc := by
  induction ms with
  | nil => exact fun _ _ h => h
  | cons m ms ih => exact fun a b h => crcStep_injective_acc cfg m (ih h)

end Sys2Proof.Machine
end

