-- ==== Sys2Proof/Laws/State.lean ====
section
/-! SUPPORT. One lemma per field per named update of the state and of the registers, so that no later proof
unfolds a record update. -/

namespace Sys2Proof.Machine

/-! `deliverNext` -/

@[simp] theorem deliverNext_cfg (w : TxWord) (s : State) : (deliverNext w s).cfg = s.cfg := rfl
@[simp] theorem deliverNext_regs (w : TxWord) (s : State) : (deliverNext w s).regs = s.regs := rfl
@[simp] theorem deliverNext_inbox (w : TxWord) (s : State) : (deliverNext w s).inbox = w :: s.inbox := rfl
@[simp] theorem deliverNext_rdata (w : TxWord) (s : State) : (deliverNext w s).rdata = s.rdata := rfl
@[simp] theorem deliverNext_firstStop (w : TxWord) (s : State) : (deliverNext w s).firstStop = s.firstStop := rfl
@[simp] theorem deliverNext_resets (w : TxWord) (s : State) : (deliverNext w s).resets = s.resets := rfl

/-! `deliver` -/

@[simp] theorem deliver_cfg (w : TxWord) (s : State) : (deliver w s).cfg = s.cfg := rfl
@[simp] theorem deliver_regs (w : TxWord) (s : State) : (deliver w s).regs = s.regs := rfl
@[simp] theorem deliver_inbox (w : TxWord) (s : State) : (deliver w s).inbox = s.inbox ++ [w] := rfl
@[simp] theorem deliver_rdata (w : TxWord) (s : State) : (deliver w s).rdata = s.rdata := rfl
@[simp] theorem deliver_firstStop (w : TxWord) (s : State) : (deliver w s).firstStop = s.firstStop := rfl
@[simp] theorem deliver_resets (w : TxWord) (s : State) : (deliver w s).resets = s.resets := rfl

/-! `recordStop` -/

@[simp] theorem recordStop_cfg (x : Stop) (s : State) : (recordStop x s).cfg = s.cfg := rfl
@[simp] theorem recordStop_regs (x : Stop) (s : State) : (recordStop x s).regs = s.regs := rfl
@[simp] theorem recordStop_inbox (x : Stop) (s : State) : (recordStop x s).inbox = s.inbox.tail := rfl
@[simp] theorem recordStop_rdata (x : Stop) (s : State) : (recordStop x s).rdata = none := rfl
@[simp] theorem recordStop_firstStop (x : Stop) (s : State) : (recordStop x s).firstStop = s.firstStop.or (some x) := rfl
@[simp] theorem recordStop_resets (x : Stop) (s : State) : (recordStop x s).resets = s.resets := rfl

/-! `classify` -/

@[simp] theorem classify_errCnt (flt : BitVec 10) (r : Regs) : (classify flt r).errCnt = countFaults flt r.errCnt := rfl
@[simp] theorem classify_frameCount (flt : BitVec 10) (r : Regs) : (classify flt r).frameCount = r.frameCount := rfl
@[simp] theorem classify_warmRem (flt : BitVec 10) (r : Regs) : (classify flt r).warmRem = r.warmRem := rfl
@[simp] theorem classify_settleRem (flt : BitVec 10) (r : Regs) : (classify flt r).settleRem = r.settleRem := rfl
@[simp] theorem classify_alarmActive (flt : BitVec 10) (r : Regs) : (classify flt r).alarmActive = r.alarmActive := rfl
@[simp] theorem classify_rawData (flt : BitVec 10) (r : Regs) : (classify flt r).rawData = r.rawData := rfl
@[simp] theorem classify_rawStatus (flt : BitVec 10) (r : Regs) : (classify flt r).rawStatus = r.rawStatus := rfl
@[simp] theorem classify_payPrimary (flt : BitVec 10) (r : Regs) : (classify flt r).payPrimary = r.payPrimary := rfl
@[simp] theorem classify_paySecondary (flt : BitVec 10) (r : Regs) : (classify flt r).paySecondary = r.paySecondary := rfl
@[simp] theorem classify_crcCalc (flt : BitVec 10) (r : Regs) : (classify flt r).crcCalc = r.crcCalc := rfl
@[simp] theorem classify_crcRecv (flt : BitVec 10) (r : Regs) : (classify flt r).crcRecv = r.crcRecv := rfl
@[simp] theorem classify_alarmInd (flt : BitVec 10) (r : Regs) : (classify flt r).alarmInd = r.alarmInd := rfl
@[simp] theorem classify_heartbeatInd (flt : BitVec 10) (r : Regs) : (classify flt r).heartbeatInd = r.heartbeatInd := rfl
@[simp] theorem classify_sessionWr (flt : BitVec 10) (r : Regs) : (classify flt r).sessionWr = r.sessionWr := rfl

/-! `storeFrame` -/

@[simp] theorem storeFrame_errCnt (cfg : Config) (raw : RawCapture) (stat : Nibble) (rcrc : Byte) (r : Regs) : (storeFrame cfg raw stat rcrc r).errCnt = r.errCnt := rfl
@[simp] theorem storeFrame_frameCount (cfg : Config) (raw : RawCapture) (stat : Nibble) (rcrc : Byte) (r : Regs) : (storeFrame cfg raw stat rcrc r).frameCount = r.frameCount + 1 := rfl
@[simp] theorem storeFrame_warmRem (cfg : Config) (raw : RawCapture) (stat : Nibble) (rcrc : Byte) (r : Regs) : (storeFrame cfg raw stat rcrc r).warmRem = r.warmRem := rfl
@[simp] theorem storeFrame_settleRem (cfg : Config) (raw : RawCapture) (stat : Nibble) (rcrc : Byte) (r : Regs) : (storeFrame cfg raw stat rcrc r).settleRem = r.settleRem := rfl
@[simp] theorem storeFrame_alarmActive (cfg : Config) (raw : RawCapture) (stat : Nibble) (rcrc : Byte) (r : Regs) : (storeFrame cfg raw stat rcrc r).alarmActive = r.alarmActive := rfl
@[simp] theorem storeFrame_rawData (cfg : Config) (raw : RawCapture) (stat : Nibble) (rcrc : Byte) (r : Regs) : (storeFrame cfg raw stat rcrc r).rawData = raw := rfl
@[simp] theorem storeFrame_rawStatus (cfg : Config) (raw : RawCapture) (stat : Nibble) (rcrc : Byte) (r : Regs) : (storeFrame cfg raw stat rcrc r).rawStatus = stat := rfl
@[simp] theorem storeFrame_payPrimary (cfg : Config) (raw : RawCapture) (stat : Nibble) (rcrc : Byte) (r : Regs) : (storeFrame cfg raw stat rcrc r).payPrimary = primaryField raw := rfl
@[simp] theorem storeFrame_paySecondary (cfg : Config) (raw : RawCapture) (stat : Nibble) (rcrc : Byte) (r : Regs) : (storeFrame cfg raw stat rcrc r).paySecondary = secondaryField raw := rfl
@[simp] theorem storeFrame_crcCalc (cfg : Config) (raw : RawCapture) (stat : Nibble) (rcrc : Byte) (r : Regs) : (storeFrame cfg raw stat rcrc r).crcCalc = (crc4 cfg (decodeMsg raw stat)).setWidth 8 := rfl
@[simp] theorem storeFrame_crcRecv (cfg : Config) (raw : RawCapture) (stat : Nibble) (rcrc : Byte) (r : Regs) : (storeFrame cfg raw stat rcrc r).crcRecv = rcrc := rfl
@[simp] theorem storeFrame_alarmInd (cfg : Config) (raw : RawCapture) (stat : Nibble) (rcrc : Byte) (r : Regs) : (storeFrame cfg raw stat rcrc r).alarmInd = r.alarmInd := rfl
@[simp] theorem storeFrame_heartbeatInd (cfg : Config) (raw : RawCapture) (stat : Nibble) (rcrc : Byte) (r : Regs) : (storeFrame cfg raw stat rcrc r).heartbeatInd = r.heartbeatInd := rfl
@[simp] theorem storeFrame_sessionWr (cfg : Config) (raw : RawCapture) (stat : Nibble) (rcrc : Byte) (r : Regs) : (storeFrame cfg raw stat rcrc r).sessionWr = true := rfl

/-! `compareStep` -/

@[simp] theorem compareStep_errCnt (c d : Byte) (r : Regs) : (compareStep c d r).errCnt = r.errCnt := rfl
@[simp] theorem compareStep_frameCount (c d : Byte) (r : Regs) : (compareStep c d r).frameCount = r.frameCount := rfl
@[simp] theorem compareStep_warmRem (c d : Byte) (r : Regs) : (compareStep c d r).warmRem = r.warmRem := rfl
@[simp] theorem compareStep_settleRem (c d : Byte) (r : Regs) : (compareStep c d r).settleRem = r.settleRem := rfl
@[simp] theorem compareStep_alarmActive (c d : Byte) (r : Regs) : (compareStep c d r).alarmActive = mismatch c d := rfl
@[simp] theorem compareStep_rawData (c d : Byte) (r : Regs) : (compareStep c d r).rawData = r.rawData := rfl
@[simp] theorem compareStep_rawStatus (c d : Byte) (r : Regs) : (compareStep c d r).rawStatus = r.rawStatus := rfl
@[simp] theorem compareStep_payPrimary (c d : Byte) (r : Regs) : (compareStep c d r).payPrimary = r.payPrimary := rfl
@[simp] theorem compareStep_paySecondary (c d : Byte) (r : Regs) : (compareStep c d r).paySecondary = r.paySecondary := rfl
@[simp] theorem compareStep_crcCalc (c d : Byte) (r : Regs) : (compareStep c d r).crcCalc = r.crcCalc := rfl
@[simp] theorem compareStep_crcRecv (c d : Byte) (r : Regs) : (compareStep c d r).crcRecv = r.crcRecv := rfl
@[simp] theorem compareStep_alarmInd (c d : Byte) (r : Regs) : (compareStep c d r).alarmInd = mismatch c d := rfl
@[simp] theorem compareStep_heartbeatInd (c d : Byte) (r : Regs) : (compareStep c d r).heartbeatInd = !r.heartbeatInd := rfl
@[simp] theorem compareStep_sessionWr (c d : Byte) (r : Regs) : (compareStep c d r).sessionWr = r.sessionWr := rfl

/-! `resetRegs` -/

@[simp] theorem resetRegs_errCnt (cfg : Config) (n : Nat) : (resetRegs cfg n).errCnt = ErrCnt.zero := rfl
@[simp] theorem resetRegs_frameCount (cfg : Config) (n : Nat) : (resetRegs cfg n).frameCount = 0 := rfl
@[simp] theorem resetRegs_warmRem (cfg : Config) (n : Nat) : (resetRegs cfg n).warmRem = cfg.wInit := rfl
@[simp] theorem resetRegs_settleRem (cfg : Config) (n : Nat) : (resetRegs cfg n).settleRem = cfg.sInit := rfl
@[simp] theorem resetRegs_alarmActive (cfg : Config) (n : Nat) : (resetRegs cfg n).alarmActive = false := rfl
@[simp] theorem resetRegs_rawData (cfg : Config) (n : Nat) : (resetRegs cfg n).rawData = Config.unspecRawData n := rfl
@[simp] theorem resetRegs_rawStatus (cfg : Config) (n : Nat) : (resetRegs cfg n).rawStatus = Config.unspecRawStatus n := rfl
@[simp] theorem resetRegs_payPrimary (cfg : Config) (n : Nat) : (resetRegs cfg n).payPrimary = Config.unspecPayPrimary n := rfl
@[simp] theorem resetRegs_paySecondary (cfg : Config) (n : Nat) : (resetRegs cfg n).paySecondary = Config.unspecPaySecondary n := rfl
@[simp] theorem resetRegs_crcCalc (cfg : Config) (n : Nat) : (resetRegs cfg n).crcCalc = Config.unspecCrcCalc n := rfl
@[simp] theorem resetRegs_crcRecv (cfg : Config) (n : Nat) : (resetRegs cfg n).crcRecv = Config.unspecCrcRecv n := rfl
@[simp] theorem resetRegs_alarmInd (cfg : Config) (n : Nat) : (resetRegs cfg n).alarmInd = false := rfl
@[simp] theorem resetRegs_heartbeatInd (cfg : Config) (n : Nat) : (resetRegs cfg n).heartbeatInd = false := rfl
@[simp] theorem resetRegs_sessionWr (cfg : Config) (n : Nat) : (resetRegs cfg n).sessionWr = false := rfl

/-! `withSession` -/

@[simp] theorem withSession_errCnt (v : Session) (r : Regs) : (withSession v r).errCnt = r.errCnt := rfl
@[simp] theorem withSession_frameCount (v : Session) (r : Regs) : (withSession v r).frameCount = r.frameCount := rfl
@[simp] theorem withSession_warmRem (v : Session) (r : Regs) : (withSession v r).warmRem = r.warmRem := rfl
@[simp] theorem withSession_settleRem (v : Session) (r : Regs) : (withSession v r).settleRem = r.settleRem := rfl
@[simp] theorem withSession_alarmActive (v : Session) (r : Regs) : (withSession v r).alarmActive = r.alarmActive := rfl
@[simp] theorem withSession_rawData (v : Session) (r : Regs) : (withSession v r).rawData = v.rawData := rfl
@[simp] theorem withSession_rawStatus (v : Session) (r : Regs) : (withSession v r).rawStatus = v.rawStatus := rfl
@[simp] theorem withSession_payPrimary (v : Session) (r : Regs) : (withSession v r).payPrimary = v.payPrimary := rfl
@[simp] theorem withSession_paySecondary (v : Session) (r : Regs) : (withSession v r).paySecondary = v.paySecondary := rfl
@[simp] theorem withSession_crcCalc (v : Session) (r : Regs) : (withSession v r).crcCalc = v.crcCalc := rfl
@[simp] theorem withSession_crcRecv (v : Session) (r : Regs) : (withSession v r).crcRecv = v.crcRecv := rfl
@[simp] theorem withSession_alarmInd (v : Session) (r : Regs) : (withSession v r).alarmInd = r.alarmInd := rfl
@[simp] theorem withSession_heartbeatInd (v : Session) (r : Regs) : (withSession v r).heartbeatInd = r.heartbeatInd := rfl
@[simp] theorem withSession_sessionWr (v : Session) (r : Regs) : (withSession v r).sessionWr = r.sessionWr := rfl

end Sys2Proof.Machine
end

