-- ==== Sys2Proof/Laws/Monitor.lean ====
section
/-! SUPPORT. What one MONSTEP can do, by the frame's role (spec/43_redundancy_monitor.md R161, R162). -/

namespace Sys2Proof.Machine

theorem frameRole_warmup_iff {w s : BitVec 8} : frameRole w s = .warmupFrame ↔ 2 ≤ w.toNat := by
  unfold frameRole
  split <;> [simp_all; split <;> simp_all]

theorem frameRole_settle_iff {w s : BitVec 8} :
    frameRole w s = .settleFrame ↔ w.toNat ≤ 1 ∧ 1 ≤ s.toNat := by
  unfold frameRole
  split
  · simp; omega
  · split <;> simp <;> omega

theorem frameRole_monitored_iff {w s : BitVec 8} :
    frameRole w s = .monitoredFrame ↔ w.toNat ≤ 1 ∧ s = 0 := by
  have h0 : s = 0 ↔ s.toNat = 0 := by bv_omega
  rw [h0]
  unfold frameRole
  split
  · simp; omega
  · split <;> simp <;> omega

/-- A warm-up frame only counts `WARM_REM` down (spec/43_redundancy_monitor.md R163, R168). -/
theorem monStep_warmup {c d : Byte} {r : Regs} (h : frameRole r.warmRem r.settleRem = .warmupFrame) :
    monStep c d r = { r with warmRem := r.warmRem - 1 } := by
  have hw := frameRole_warmup_iff.mp h
  have h1 : r.warmRem ≠ 0 := by bv_omega
  have h2 : r.warmRem - 1 ≠ 0 := by bv_omega
  simp only [monStep, if_pos h1, if_pos h2]

/-- A settling frame ends warm-up if it still ran, and counts `SETTLE_REM` down
(spec/43_redundancy_monitor.md R163, R168). -/
theorem monStep_settle {c d : Byte} {r : Regs} (h : frameRole r.warmRem r.settleRem = .settleFrame) :
    monStep c d r = { r with warmRem := 0, settleRem := r.settleRem - 1 } := by
  obtain ⟨hw, hs⟩ := frameRole_settle_iff.mp h
  have hs' : r.settleRem ≠ 0 := by bv_omega
  by_cases h1 : r.warmRem = 0
  · simp only [monStep, settleOrCompare, h1, ne_eq, not_true_eq_false, if_false, if_pos hs']
  · have h2 : r.warmRem - 1 = 0 := by bv_omega
    simp only [monStep, settleOrCompare, if_pos h1, h2, ne_eq, not_true_eq_false, if_false, if_pos hs']

/-- A monitored frame ends warm-up if it still ran, and compares (spec/43_redundancy_monitor.md R164, R168). -/
theorem monStep_monitored {c d : Byte} {r : Regs} (h : frameRole r.warmRem r.settleRem = .monitoredFrame) :
    monStep c d r = compareStep c d { r with warmRem := 0, settleRem := 0 } := by
  obtain ⟨hw, hs⟩ := frameRole_monitored_iff.mp h
  by_cases h1 : r.warmRem = 0
  · have e : r = { r with warmRem := 0, settleRem := 0 } := by cases r; simp_all
    simp only [monStep, settleOrCompare, h1, hs, ne_eq, not_true_eq_false, if_false]
    rw [← e]
  · have h2 : r.warmRem - 1 = 0 := by bv_omega
    have e : { r with warmRem := 0 } = { r with warmRem := 0, settleRem := 0 } := by cases r; simp_all
    simp only [monStep, settleOrCompare, if_pos h1, h2, hs, ne_eq, not_true_eq_false, if_false]

/-- Everything one MONSTEP can do: one of the three roles, with exactly its writes. -/
theorem monStep_cases (c d : Byte) (r : Regs) :
    (frameRole r.warmRem r.settleRem = .warmupFrame ∧ monStep c d r = { r with warmRem := r.warmRem - 1 }) ∨
    (frameRole r.warmRem r.settleRem = .settleFrame ∧
      monStep c d r = { r with warmRem := 0, settleRem := r.settleRem - 1 }) ∨
    (frameRole r.warmRem r.settleRem = .monitoredFrame ∧
      monStep c d r = compareStep c d { r with warmRem := 0, settleRem := 0 }) := by
  cases h : frameRole r.warmRem r.settleRem with
  | warmupFrame => exact .inl ⟨rfl, monStep_warmup h⟩
  | settleFrame => exact .inr (.inl ⟨rfl, monStep_settle h⟩)
  | monitoredFrame => exact .inr (.inr ⟨rfl, monStep_monitored h⟩)

end Sys2Proof.Machine
end

