-- ==== Sys2Proof/Laws/Operands.lean ====
section
/-! SUPPORT. What the operand forms do: the counter file by kind, the numbering of the read space. -/

namespace Sys2Proof.Machine

@[simp] theorem ErrCnt.get_tabulate (f : FaultKind → Word) (k : FaultKind) :
    (ErrCnt.tabulate f).get k = f k := by
  cases k <;> rfl

@[simp] theorem ErrCnt.get_zero (k : FaultKind) : ErrCnt.zero.get k = 0 := by
  cases k <;> rfl

/-- A counter file is its ten counters. -/
theorem ErrCnt.ext_get {c d : ErrCnt} (h : ∀ k, c.get k = d.get k) : c = d := by
  have h0 := h .rxovf
  have h1 := h .txunf
  have h2 := h .frqrng
  have h3 := h .frqdrf
  have h4 := h .nibcnt
  have h5 := h .nibval
  have h6 := h .hwcrc
  have h7 := h .stnib
  have h8 := h .sercrc
  have h9 := h .wdt
  cases c
  cases d
  simp_all [ErrCnt.get]

/-- What CLASSIFY does to each counter (spec/42_error_counters.md R141). -/
theorem countFaults_get (flt : BitVec 10) (c : ErrCnt) (k : FaultKind) :
    (countFaults flt c).get k = if faultFlag flt k then c.get k + 1 else c.get k := by
  simp [countFaults]

/-- Every defined word is found at its index (spec/20_memory.md R51). -/
theorem regOfIndex_regIndex (n : RegName) : regOfIndex (regIndex n) = some n := by
  cases n with
  | errCnt k => cases k <;> rfl
  | _ => rfl

/-- The indices above 16 name no word, and no other does not (spec/20_memory.md R50, R52). -/
theorem regOfIndex_eq_none_iff (reg : BitVec 5) : regOfIndex reg = none ↔ 17 ≤ reg.toNat := by
  revert reg
  decide

/-- The index of a kind's counter is the kind's number (spec/20_memory.md R51, spec/10_state.md R23). -/
theorem regIndex_errCnt (k : FaultKind) : regIndex (.errCnt k) = BitVec.ofNat 5 (faultNumber k) := by
  cases k <;> rfl

/-- The session words are the indices 11, 12, 15 and 16 (spec/44_event_readout.md R200). -/
theorem isSessionWord_iff (reg : BitVec 5) (n : RegName) (h : regOfIndex reg = some n) :
    isSessionWord n = true ↔ reg ∈ [11#5, 12#5, 15#5, 16#5] := by
  have key : ∀ reg : BitVec 5, ∀ n ∈ regOfIndex reg,
      (isSessionWord n = true ↔ reg ∈ [11#5, 12#5, 15#5, 16#5]) := by decide
  exact key reg n h

end Sys2Proof.Machine
end

