-- ==== Sys2Proof/Laws/Exec.lean ====
section
/-! SUPPORT. What each transaction, and one step, can do; later proofs cite these and do not unfold. -/

namespace Sys2Proof.Machine

/-- The registers an EVENT leaves (spec/44_event_readout.md R191). -/
theorem execEvent_eq (flt : BitVec 10) (fc : Bool) (raw : RawCapture) (stat : Nibble) (rcrc : Byte) (s : State) :
    execEvent flt fc raw stat rcrc s =
      .next { s with
        regs := if fc then framePath s.cfg raw stat rcrc (classify flt s.regs) else classify flt s.regs
        rdata := none } := by
  cases fc <;> rfl

/-- The frame path is the stores and then MONSTEP on the pair of this frame
(spec/44_event_readout.md R191, R192). -/
theorem framePath_eq (cfg : Config) (raw : RawCapture) (stat : Nibble) (rcrc : Byte) (r : Regs) :
    framePath cfg raw stat rcrc r =
      monStep ((crc4 cfg (decodeMsg raw stat)).setWidth 8) rcrc (storeFrame cfg raw stat rcrc r) := rfl

/-- Everything a READ can do (spec/44_event_readout.md R200). -/
theorem execRead_cases (reg : BitVec 5) (s : State) :
    (regOfIndex reg = none ∧ execRead reg s = .refused (.reservedReg reg)) ∨
    (∃ n, regOfIndex reg = some n ∧ isSessionWord n = true ∧ s.regs.sessionWr = false ∧
      execRead reg s = .fault (.unwrittenRead reg)) ∨
    (∃ n, regOfIndex reg = some n ∧ (isSessionWord n = true → s.regs.sessionWr = true) ∧
      execRead reg s = .next { s with rdata := some (readReg n s.regs) }) := by
  unfold execRead doneWith
  cases h : regOfIndex reg with
  | none => exact .inl ⟨rfl, rfl⟩
  | some n =>
    right
    cases h₁ : isSessionWord n <;> cases h₂ : s.regs.sessionWr <;> simp

/-- RESET always completes (spec/70_reset_and_hazards.md R250). -/
theorem execReset_eq (s : State) :
    execReset s =
      .next { s with regs := resetRegs s.cfg (s.resets + 1), rdata := none, resets := s.resets + 1 } := rfl

theorem step_nil {s : State} (h : s.inbox = []) : step s = .next s := by
  simp [step, stepTransaction, takeWord, h]

theorem step_cons {s : State} {w : TxWord} {rest : List TxWord} (h : s.inbox = w :: rest) :
    step s = performWord w { s with inbox := rest } := by
  simp [step, stepTransaction, takeWord, h]

/-- Everything a step can do: wait, perform an EVENT, a READ or a RESET, or refuse the word. -/
theorem step_cases (s : State) :
    (s.inbox = [] ∧ step s = .next s) ∨
    ∃ w rest, s.inbox = w :: rest ∧
      ((∃ flt fc raw stat rcrc, decode w = .instr (.event flt fc raw stat rcrc) ∧
          step s = execEvent flt fc raw stat rcrc { s with inbox := rest }) ∨
        (∃ reg, decode w = .instr (.read reg) ∧ step s = execRead reg { s with inbox := rest }) ∨
        (decode w = .instr .reset ∧ step s = execReset { s with inbox := rest }) ∨
        (decode w = .reservedKind ∧ step s = .refused (.reservedKind w)) ∨
        (decode w = .reservedBits ∧ step s = .refused (.reservedBits w))) := by
  cases h : s.inbox with
  | nil => exact .inl ⟨rfl, step_nil h⟩
  | cons w rest =>
    refine .inr ⟨w, rest, rfl, ?_⟩
    rw [step_cons h]
    unfold performWord
    cases hd : decode w with
    | instr i =>
      cases i with
      | event flt fc raw stat rcrc => exact .inl ⟨flt, fc, raw, stat, rcrc, rfl, rfl⟩
      | read reg => exact .inr (.inl ⟨reg, rfl, rfl⟩)
      | reset => exact .inr (.inr (.inl ⟨rfl, rfl⟩))
    | reservedKind => exact .inr (.inr (.inr (.inl ⟨rfl, rfl⟩)))
    | reservedBits => exact .inr (.inr (.inr (.inr ⟨rfl, rfl⟩)))

theorem advance_next {s t : State} (h : step s = .next t) : advance s = t := by simp [advance, h]

theorem advance_fault {s : State} {f : Fault} (h : step s = .fault f) :
    advance s = recordStop (.fault f) s := by simp [advance, h]

theorem advance_refused {s : State} {r : Refusal} (h : step s = .refused r) :
    advance s = recordStop (.refused r) s := by simp [advance, h]

/-- Everything one step of a run can do to the registers, the configuration and the inbox. -/
theorem advance_cases (s : State) :
    (advance s).cfg = s.cfg ∧ (advance s).inbox = s.inbox.tail ∧
    ((advance s).regs = s.regs ∧ (∀ w ∈ s.inbox.head?, isFrameWord w = false ∧ isResetWord w = false) ∨
      (∃ w rest flt fc raw stat rcrc, s.inbox = w :: rest ∧ decode w = .instr (.event flt fc raw stat rcrc) ∧
        (advance s).regs =
          if fc then framePath s.cfg raw stat rcrc (classify flt s.regs) else classify flt s.regs) ∨
      (∃ w rest, s.inbox = w :: rest ∧ decode w = .instr .reset ∧
        (advance s).regs = resetRegs s.cfg (s.resets + 1))) := by
  obtain ⟨hn, h⟩ | ⟨w, rest, hi, h⟩ := step_cases s
  · rw [advance_next h]
    simp [hn]
  · obtain ⟨flt, fc, raw, stat, rcrc, hd, h⟩ | ⟨reg, hd, h⟩ | ⟨hd, h⟩ | ⟨hd, h⟩ | ⟨hd, h⟩ := h
    · rw [execEvent_eq] at h
      rw [advance_next h]
      exact ⟨rfl, by simp [hi], .inr (.inl ⟨w, rest, flt, fc, raw, stat, rcrc, hi, hd, rfl⟩)⟩
    · obtain ⟨-, e⟩ | ⟨n, -, -, -, e⟩ | ⟨n, -, -, e⟩ := execRead_cases reg { s with inbox := rest } <;>
        rw [e] at h
      · rw [advance_refused h]
        simp [hi, isFrameWord, isResetWord, hd]
      · rw [advance_fault h]
        simp [hi, isFrameWord, isResetWord, hd]
      · rw [advance_next h]
        simp [hi, isFrameWord, isResetWord, hd]
    · rw [execReset_eq] at h
      rw [advance_next h]
      exact ⟨rfl, by simp [hi], .inr (.inr ⟨w, rest, hi, hd, rfl⟩)⟩
    · rw [advance_refused h]
      simp [hi, isFrameWord, isResetWord, hd]
    · rw [advance_refused h]
      simp [hi, isFrameWord, isResetWord, hd]

end Sys2Proof.Machine
end

