-- ==== Sys2Proof/Laws/PerInstr.lean ====
section
/-! SUPPORT. Facts about every transaction as syntax, one lemma per constructor. -/

namespace Sys2Proof.Laws.MatchesOpcodeRow

/-- The encoding of a transaction matches its own row of the opcode map (spec/30_encoding.md R81). -/
def Statement (i : Instr) : Prop := encode i &&& (opcodeRowOf i).mask = (opcodeRowOf i).pattern

/-- No operand of an EVENT reaches a reserved bit (spec/30_encoding.md R72: `RSV0`, `RSV1`, `KIND`). -/
theorem event_reserved_bit (flt : BitVec 10) (fc : Bool) (raw : RawCapture) (stat : Nibble) (rcrc : Byte)
    (i : Nat) (h : 52 ≤ i ∨ (11 ≤ i ∧ i < 16)) : (encode (.event flt fc raw stat rcrc)).getLsbD i = false := by
  have hflt : flt.getLsbD i = false := BitVec.getLsbD_of_ge _ _ (by omega)
  have hfc : i - 10 ≠ 0 := by omega
  obtain h | ⟨h₁, h₂⟩ := h
  · have hrcrc : rcrc.getLsbD (i - 44) = false := BitVec.getLsbD_of_ge _ _ (by omega)
    have hstat : stat.getLsbD (i - 40) = false := BitVec.getLsbD_of_ge _ _ (by omega)
    have hraw : raw.getLsbD (i - 16) = false := BitVec.getLsbD_of_ge _ _ (by omega)
    simp [encode, hflt, hfc, hrcrc, hstat, hraw]
  · have h16 : i < 16 := h₂
    have h40 : i < 40 := by omega
    have h44 : i < 44 := by omega
    simp [encode, hflt, hfc, h16, h40, h44]

theorem event (flt : BitVec 10) (fc : Bool) (raw : RawCapture) (stat : Nibble) (rcrc : Byte) :
    Statement (.event flt fc raw stat rcrc) := by
  have hmask : ∀ i < 64, (0xFFF000000000F800#64).getLsbD i = true → 52 ≤ i ∨ (11 ≤ i ∧ i < 16) := by decide
  apply BitVec.eq_of_getLsbD_eq
  intro i hi
  simp only [opcodeRowOf, eventRow, BitVec.getLsbD_and]
  by_cases hm : (0xFFF000000000F800#64).getLsbD i = true
  · rw [event_reserved_bit _ _ _ _ _ i (hmask i hi hm)]
    simp
  · simp [hm]

theorem read (reg : BitVec 5) : Statement (.read reg) := by
  revert reg
  unfold Statement
  decide

theorem reset : Statement .reset := by
  unfold Statement
  decide

end Sys2Proof.Laws.MatchesOpcodeRow
end

