-- ==== Sys2Proof/Machine/AsmText.lean ====
section
/-! DEFINITION. The textual syntax of spec/30_encoding.md R83, R84: one line of text to an assembler line.
What R83 leaves open (blanks, letter case, tokens) is log 10. -/

namespace Sys2Proof.Machine

/-- A token of a line: a word (a name or a number) or a separator. -/
inductive Token where
  | word (cs : List Char)
  | comma
  | equals
  | bar
deriving DecidableEq, Repr

/-- Close the word being read, if one is, in front of the tokens that follow. -/
def closeWord (cur : List Char) (rest : List Token) : List Token :=
  if cur.isEmpty then rest else .word cur.reverse :: rest

/-- The tokens of a line; `;` starts a comment (spec/30_encoding.md R83). `cur` holds the word being read,
last character first. -/
def tokens (cur : List Char) : List Char → List Token
  | [] => closeWord cur []
  | c :: cs =>
    if c = ';' then closeWord cur []
    else if c = ' ' ∨ c = '\t' then closeWord cur (tokens [] cs)
    else if c = ',' then closeWord cur (.comma :: tokens [] cs)
    else if c = '=' then closeWord cur (.equals :: tokens [] cs)
    else if c = '|' then closeWord cur (.bar :: tokens [] cs)
    else tokens (c :: cur) cs

/-- The value of a digit in a base of at most 16. -/
def digitValue (base : Nat) (c : Char) : Option Nat :=
  let v := if '0' ≤ c ∧ c ≤ '9' then some (c.toNat - '0'.toNat)
    else if 'a' ≤ c ∧ c ≤ 'f' then some (c.toNat - 'a'.toNat + 10)
    else if 'A' ≤ c ∧ c ≤ 'F' then some (c.toNat - 'A'.toNat + 10)
    else none
  v.filter (· < base)

/-- The number a list of digits spells, after a prefix worth `acc`. -/
def digitsValue (base acc : Nat) : List Char → Option Nat
  | [] => some acc
  | c :: cs => (digitValue base c).bind fun d => digitsValue base (acc * base + d) cs

/-- "Numbers are hexadecimal with `0x` or decimal" (spec/30_encoding.md R83). -/
def numberValue : List Char → Option Nat
  | [] => none
  | ['0', 'x'] => none
  | '0' :: 'x' :: cs => digitsValue 16 0 cs
  | cs => digitsValue 10 0 cs

/-- The mnemonic of a fault kind (spec/10_state.md R23). -/
def faultMnemonic : FaultKind → String
  | .rxovf => "RXOVF"
  | .txunf => "TXUNF"
  | .frqrng => "FRQRNG"
  | .frqdrf => "FRQDRF"
  | .nibcnt => "NIBCNT"
  | .nibval => "NIBVAL"
  | .hwcrc => "HWCRC"
  | .stnib => "STNIB"
  | .sercrc => "SERCRC"
  | .wdt => "WDT"

/-- The name of a read word (spec/20_memory.md R51). -/
def regMnemonic : RegName → String
  | .errCnt k => "ERRCNT_" ++ faultMnemonic k
  | .frameCnt => "FRAMECNT"
  | .crcCalc => "CRCCALC"
  | .crcRecv => "CRCRECV"
  | .monStat => "MONSTAT"
  | .monRem => "MONREM"
  | .rawFrame => "RAWFRAME"
  | .payload => "PAYLOAD"

/-- Every read word (spec/20_memory.md R51). -/
def allRegNames : List RegName :=
  allFaultKinds.map .errCnt ++ [.frameCnt, .crcCalc, .crcRecv, .monStat, .monRem, .rawFrame, .payload]

/-- The fault kind a word names. -/
def faultOfWord (cs : List Char) : Option FaultKind :=
  allFaultKinds.find? fun k => (faultMnemonic k).toList = cs

/-- A READ operand: a register name or an index (spec/30_encoding.md R83). -/
def readOperandOfWord (cs : List Char) : Option ReadOperand :=
  match allRegNames.find? fun r => (regMnemonic r).toList = cs with
  | some r => some (.name r)
  | none => (numberValue cs).map .index

/-- The rest of a `<flags>` operand after one mnemonic: more of them joined by `|`, and what follows. -/
def moreFlags : List Token → Option (List FaultKind × List Token)
  | .bar :: .word cs :: rest =>
      (faultOfWord cs).bind fun k => (moreFlags rest).map fun (ks, rest) => (k :: ks, rest)
  | .bar :: _ => none
  | rest => some ([], rest)

/-- `<flags>`: `-`, or one or more fault mnemonics joined by `|` (spec/30_encoding.md R83). -/
def flagsOperand : List Token → Option (List FaultKind × List Token)
  | .word ['-'] :: rest => some ([], rest)
  | .word cs :: rest => (faultOfWord cs).bind fun k => (moreFlags rest).map fun (ks, rest) => (k :: ks, rest)
  | _ => none

/-- The numbers of the operands `<name>=<number>`, the names in order, a comma between two. -/
def namedNumbers : List String → List Token → Option (List Nat)
  | [], [] => some []
  | name :: names, .comma :: .word n :: .equals :: .word v :: rest =>
      if n = name.toList then
        (numberValue v).bind fun x => (namedNumbers names rest).map (x :: ·)
      else none
  | _, _ => none

/-- Numbers separated by commas. -/
def plainNumbers : List Token → Option (List Nat)
  | [.word v] => (numberValue v).map ([·])
  | .word v :: .comma :: rest => (numberValue v).bind fun x => (plainNumbers rest).map (x :: ·)
  | _ => none

/-- The operands of `EVENT`: all five, in the order of spec/30_encoding.md R83. -/
def eventOperands : List Token → Option AsmLine
  | .word n :: .equals :: rest =>
      if n = "flt".toList then
        (flagsOperand rest).bind fun (flags, rest) =>
          match namedNumbers ["fc", "raw", "st", "rcrc"] rest with
          | some [fc, raw, st, rcrc] => some (.event flags fc raw st rcrc)
          | _ => none
      else none
  | _ => none

/-- The line a mnemonic and its operand tokens spell (spec/30_encoding.md R83, R84). -/
def lineOf (mnemonic : List Char) (ops : List Token) : Option AsmLine :=
  if mnemonic = "EVENT".toList then eventOperands ops
  else if mnemonic = "READ".toList then
    match ops with
    | [.word cs] => (readOperandOfWord cs).map .read
    | _ => none
  else if mnemonic = "RESET".toList then if ops.isEmpty then some .reset else none
  else if mnemonic = "IDLE".toList then if ops.isEmpty then some .idle else none
  else if mnemonic = "FAULTS".toList then
    match flagsOperand ops with
    | some (flags, []) => some (.faults flags)
    | _ => none
  else if mnemonic = "FRAME".toList then
    match plainNumbers ops with
    | some [raw, st, rcrc] => some (.frame raw st rcrc)
    | _ => none
  else if mnemonic = "FRAMEOK".toList then
    match plainNumbers ops with
    | some [raw, st] => some (.frameOk raw st)
    | _ => none
  else if mnemonic = "FRAMEBAD".toList then
    match plainNumbers ops with
    | some [raw, st] => some (.frameBad raw st)
    | _ => none
  else none

/-- The assembler line of a line of text; none if it does not follow the syntax, or is blank. -/
def parseLine (text : String) : Option AsmLine :=
  match tokens [] text.toList with
  | .word m :: ops => lineOf m ops
  | _ => none

/-- The word of a line of text under a configuration (spec/30_encoding.md R83 to R85). -/
def assembleText (cfg : Config) (text : String) : Option TxWord := (parseLine text).bind (assembleWord cfg)

end Sys2Proof.Machine
end

