-- ==== Sys2Proof/Tests/Slice0.lean ====
section
/-! SUPPORT. Tests, with expected results from spec/95_test_vectors.md and the spec's worked examples, and a
witness for the hypotheses of each statement. -/

namespace Sys2Proof.Tests

open Sys2Proof.Machine

/-! ## Small states -/

/-- A state of the reference machine with the monitor's registers and a given inbox. -/
def mon (warm settle : BitVec 8) (alarm ind hb : Bool) (inbox : List TxWord := []) : State :=
  { State.reset with
    regs := { State.reset.regs with
      warmRem := warm, settleRem := settle, alarmActive := alarm, alarmInd := ind, heartbeatInd := hb }
    inbox := inbox }

/-- The state after the worked EVENT of spec/44_event_readout.md R191 (V-EVT-1). -/
def afterFrame : State :=
  match step (State.reset.withFetchWord 64 0x0000671234560400) with
  | .next t => t
  | _ => State.reset

/-- A state with some windows' initial values other than the reference. -/
def withInits (w s : BitVec 8) (t : State) : State := { t with cfg := { t.cfg with wInit := w, sInit := s } }

/-- The registers a step answers with, if it does. -/
def regsAfter (o : Host.Outcome State Fault Refusal) : Option Regs :=
  match o with
  | .next t => some t.regs
  | _ => none

/-- The result a step answers with, if it does. -/
def rdataAfter (o : Host.Outcome State Fault Refusal) : Option Word :=
  match o with
  | .next t => t.rdata
  | _ => none

/-- `W S A AI HB`, as spec/95_test_vectors.md section 2.4 lists them. -/
def monRegs (r : Regs) : BitVec 8 × BitVec 8 × Bool × Bool × Bool :=
  (r.warmRem, r.settleRem, r.alarmActive, r.alarmInd, r.heartbeatInd)

/-! ## Well-formedness: each check refuses a value that does not fit its field (R83) -/

theorem test_wf_event_ok : (AsmLine.event [.wdt] 1 0xFFFFFF 0xF 0xFF).wf = true := by decide
theorem test_wf_event_fc : (AsmLine.event [] 2 0 0 0).wf = false := by decide
theorem test_wf_event_raw : (AsmLine.event [] 0 0x1000000 0 0).wf = false := by decide
theorem test_wf_event_st : (AsmLine.event [] 0 0 16 0).wf = false := by decide
theorem test_wf_event_rcrc : (AsmLine.event [] 0 0 0 0x100).wf = false := by decide
theorem test_wf_read_index : (AsmLine.read (.index 32)).wf = false ∧ (AsmLine.read (.index 31)).wf = true := by
  decide
theorem test_wf_frame :
    (AsmLine.frame 0x1000000 0 0).wf = false ∧ (AsmLine.frame 0 16 0).wf = false ∧
      (AsmLine.frame 0 0 0x100).wf = false := by decide
theorem test_wf_frameOk : (AsmLine.frameOk 0x1000000 0).wf = false ∧ (AsmLine.frameOk 0 16).wf = false := by decide
theorem test_wf_frameBad : (AsmLine.frameBad 0x1000000 0).wf = false ∧ (AsmLine.frameBad 0 16).wf = false := by
  decide

/-! ## Decoding: words written from R72, R74, R75 and section 2.8 of 95_test_vectors.md -/

/-- EVENT with each field at a value of its own, the word written bit by bit from R72:
KIND 00, RSV1 0, RCRC 0xA5, STAT 0x9, RAW 0x123456, RSV0 0, FC 1, FLT 0b1000000001. -/
theorem test_decode_event_bits :
    decode 0b0000000000_00_10100101_1001_000100100011010001010110_00000_1_1000000001 =
      .instr (.event 0b1000000001 true 0x123456 0x9 0xA5) := by decide
theorem test_decode_read_bits :
    decode 0b01_000000000000000000000000000000000000000000000000000000000_10000 = .instr (.read 16) := by decide
theorem test_decode_reset_bits :
    decode 0b10_00000000000000000000000000000000000000000000000000000000000000 = .instr .reset := by decide
theorem test_encode_event : encode (.event 0x201 true 0x123456 0x7 0x06) = 0x0000671234560601 := by decide
theorem test_decode_kind_before_bits : decode 0xFFFFFFFFFFFFFFFF = .reservedKind := by decide
theorem test_decode_rsv0 : decode 0x0000000000000800 = .reservedBits := by decide
theorem test_decode_rsv1 : decode 0x0010000000000000 = .reservedBits := by decide
theorem test_decode_read_rsv : decode 0x4000000000000020 = .reservedBits := by decide
theorem test_decode_reset_rsv : decode 0x8000000000000001 = .reservedBits := by decide
theorem test_decodeTableWord : decodeTableWord 64 0x4000000000000000 = some (.read 0) ∧
    decodeTableWord 64 0xC000000000000000 = none := by decide

/-! ## CRC4 and DECODE (sections 2.1 and 2.2 of 95_test_vectors.md, default table) -/

/-- V-CRC-4, V-CRC-12, V-CRC-16. -/
theorem test_crc4_vectors :
    crc4 Config.reference #v[7, 3, 4, 5, 6, 1, 2] = 0x6 ∧ crc4 Config.reference #v[3, 0, 11, 0, 12, 0, 10] = 0x8 ∧
      crc4 Config.reference #v[4, 15, 15, 0, 0, 0, 0] = 0x4 := by decide

/-- The last-nibble sweep of section 2.1. -/
theorem test_crc4_last_nibble_sweep :
    ((List.range 16).map fun x => (crc4 Config.reference #v[7, 3, 4, 5, 6, 1, BitVec.ofNat 4 x]).toNat) =
      [1, 12, 6, 11, 15, 2, 8, 5, 0, 13, 7, 10, 14, 3, 9, 4] := by decide

/-- V-CRC-18, V-CRC-19, V-CRC-21. -/
theorem test_crc4Bytes :
    crc4Bytes Config.reference #v[0, 0, 0, 0, 0, 0, 0] = .ok 0x05 ∧
      crc4Bytes Config.reference #v[0x07, 0x03, 0x04, 0x05, 0x06, 0x01, 0x12] = .error (.invalidFrame 6) ∧
      crc4Bytes Config.reference #v[0xFF, 0, 0, 0, 0, 0, 0xFF] = .error (.invalidFrame 0) := by decide

/-- V-DEC-1, V-DEC-4. -/
theorem test_decodeMsg :
    decodeMsg 0x123456 0x7 = #v[7, 3, 4, 5, 6, 1, 2] ∧ decodeMsg 0x0A0B0C 0x3 = #v[3, 0, 11, 0, 12, 0, 10] ∧
      primaryField 0x0A0B0C = 0x0B0C ∧ secondaryField 0x0A0B0C = 0x0A := by decide

theorem test_encodeFrame : encodeFrame #v[7, 3, 4, 5, 6, 1, 2] = (0x123456, 0x7) := by decide

/-! ## MONSTEP (section 2.4 of 95_test_vectors.md) -/

/-- V-MON-1, V-MON-3, V-MON-8. -/
theorem test_monStep_windows :
    monRegs (monStep 0x06 0x07 (mon 3 3 false false false).regs) = (2, 3, false, false, false) ∧
      monRegs (monStep 0x06 0x07 (mon 1 3 false false false).regs) = (0, 2, false, false, false) ∧
      monRegs (monStep 0x06 0x07 (mon 0 1 false false false).regs) = (0, 0, false, false, false) := by decide

/-- V-MON-5, V-MON-11, V-MON-12, V-MON-13. -/
theorem test_monStep_monitored :
    monRegs (monStep 0x06 0x07 (mon 1 0 false false false).regs) = (0, 0, true, true, true) ∧
      monRegs (monStep 0x06 0x07 (mon 0 0 true true true).regs) = (0, 0, true, true, false) ∧
      monRegs (monStep 0x06 0x06 (mon 0 0 true true true).regs) = (0, 0, false, false, false) ∧
      monRegs (monStep 0x06 0x16 (mon 0 0 false false true).regs) = (0, 0, true, true, false) := by decide

/-! ## One step of each transaction (sections 2.5 to 2.7 of 95_test_vectors.md) -/

/-- V-EVT-2, from reset: the counters, the tally, the session registers and the window. -/
theorem test_event_step :
    (regsAfter (step (State.reset.withFetchWord 64 0x0000671234560601))).map
      (fun r => (r.errCnt.rxovf, r.errCnt.wdt, r.errCnt.hwcrc, r.frameCount, r.crcCalc, r.crcRecv, r.payPrimary,
        r.paySecondary, r.warmRem, r.settleRem)) =
      some (1, 1, 0, 1, 0x06, 0x06, 0x3456, 0x12, 2, 3) := by decide

/-- V-EVT-8 and V-CLS-7: the tally and a counter wrap. -/
theorem test_event_wraps :
    (regsAfter (exec (.event 0x001 true 0 0 0x05)
      { State.reset with regs := { State.reset.regs with
          frameCount := 0xFFFFFFFF, errCnt := { ErrCnt.zero with rxovf := 0xFFFFFFFF } } })).map
      (fun r => (r.frameCount, r.errCnt, r.warmRem)) = some (0, ErrCnt.zero, 2) := by decide

/-- V-RD-10, V-RD-11, V-RD-12: after V-EVT-1. -/
theorem test_read_session :
    rdataAfter (exec (.read 15) afterFrame) = some 0x07123456 ∧
      rdataAfter (exec (.read 16) afterFrame) = some 0x00123456 ∧
      rdataAfter (exec (.read 11) afterFrame) = some 0x00000006 := by decide

/-- V-RD-1, V-RD-2, V-RD-3, V-RD-5, V-RD-6. -/
theorem test_read_monitor :
    rdataAfter (exec (.read 13) State.reset) = some 0x00000000 ∧
      rdataAfter (exec (.read 14) State.reset) = some 0x00000303 ∧
      rdataAfter (exec (.read 13) (mon 0 2 false false false)) = some 0x00000002 ∧
      rdataAfter (exec (.read 13) (mon 0 0 false false true)) = some 0x00000014 ∧
      rdataAfter (exec (.read 13) (mon 0 0 true true false)) = some 0x0000000D := by decide

/-- V-RD-8, V-RD-13. -/
theorem test_read_stops :
    exec (.read 11) State.reset = .fault (.unwrittenRead 11) ∧
      exec (.read 17) afterFrame = .refused (.reservedReg 17) := ⟨rfl, rfl⟩

/-- V-RST-1, from a state in MONITORING.ALARM. -/
theorem test_reset_step :
    (regsAfter (step ((mon 0 0 true true true).withFetchWord 64 0x8000000000000000))).map
      (fun r => (r.errCnt, r.frameCount, r.sessionWr)) = some (ErrCnt.zero, 0, false) ∧
    (regsAfter (step ((mon 0 0 true true true).withFetchWord 64 0x8000000000000000))).map monRegs =
      some (3, 3, false, false, false) := by decide

/-- Steps 2 and 4 of P5: the run goes on, and the mark keeps the first stop. -/
theorem test_first_stop_is_kept :
    (advanceN 2 { State.reset with inbox := [0x400000000000000B, 0xC000000000000000] }).firstStop =
      some (.fault (.unwrittenRead 11)) := by decide

/-- REFUSE_BAD_CONFIG: a seed above 15, and a table that is no permutation (R226). -/
theorem test_construct_refuses :
    construct { Config.referenceParams with crcSeed := 16 } = .error .badConfig ∧
      construct { Config.referenceParams with crcTable := List.replicate 16 0 } = .error .badConfig := ⟨rfl, rfl⟩

theorem test_construct_reference : checkParams Config.referenceParams = some Config.reference := by decide

/-! ## Assembler (sections 4 and 6 of 30_encoding.md: R84, R85) -/

theorem test_text_event :
    assembleText Config.reference "EVENT flt=-, fc=1, raw=0x123456, st=0x7, rcrc=0x06" = some 0x0000671234560400 := by
  decide
theorem test_text_faults : assembleText Config.reference "FAULTS FRQDRF|HWCRC" = some 0x0000000000000048 := by decide
theorem test_text_read : assembleText Config.reference "READ MONSTAT ; the monitor" = some 0x400000000000000D ∧
    assembleText Config.reference "READ 17" = some 0x4000000000000011 := by decide
theorem test_text_plain : assembleText Config.reference "IDLE" = some 0 ∧
    assembleText Config.reference "RESET" = some 0x8000000000000000 := by decide
/-- P2 steps 8 and 10. -/
theorem test_text_frames : assembleText Config.reference "FRAMEBAD 0x3C3C3C, 0x2" = some 0x0000323C3C3C0400 ∧
    assembleText Config.reference "FRAMEOK 0x00FF00, 0x4" = some 0x00004400FF000400 := by decide
theorem test_text_rejects : assembleText Config.reference "FRAME 0x1000000, 0, 0" = none ∧
    assembleText Config.reference "EVENT flt=-, fc=1, raw=0, st=0" = none := by decide

/-! ## Duties of the agents (R204) -/

theorem test_duties :
    dutiesKept [⟨.collaborator, 0x0000671234560400⟩, ⟨.reader, 0x400000000000000D⟩] = true ∧
      dutiesKept [⟨.reader, 0x8000000000000000⟩] = false := by decide

/-! ## Witnesses: a concrete state and operands that meet the hypotheses of each statement -/

/-- The word of a frame with CRC4 value 5 and received checksum 5 (V-EVT-8). -/
def frameWord : TxWord := 0x0000500000000400

theorem witness_StepPerformsDecodedTransaction :
    (mon 3 3 false false false [frameWord]).inbox = frameWord :: [] ∧
      decode frameWord = .instr (.event 0 true 0 0 0x05) := by decide

theorem witness_StepRefusesReservedKind :
    (mon 3 3 false false false [0xC000000000000000]).inbox = 0xC000000000000000 :: [] ∧
      (0xC000000000000000#64).extractLsb' 62 2 = 0b11#2 := by decide

/-- One word for each kind, its lowest or its highest reserved bit set, and READ 17. -/
theorem witness_StepRefusesReservedBits :
    (mon 3 3 false false false [0x0000000000000800]).inbox = 0x0000000000000800 :: [] ∧
      (0x0000000000000800#64).extractLsb' 62 2 = 0b00#2 ∧ (0x0000000000000800#64).extractLsb' 11 5 ≠ 0 ∧
      (0x0010000000000000#64).extractLsb' 62 2 = 0b00#2 ∧ (0x0010000000000000#64).extractLsb' 52 10 ≠ 0 ∧
      (0x4000000000000020#64).extractLsb' 62 2 = 0b01#2 ∧ (0x4000000000000020#64).extractLsb' 5 57 ≠ 0 ∧
      (0x8000000000000001#64).extractLsb' 62 2 = 0b10#2 ∧ (0x8000000000000001#64).extractLsb' 0 62 ≠ 0 := by
  decide

theorem witness_StepRefusesReservedBits_readsReservedIndex :
    (mon 3 3 false false false [0x4000000000000011]).inbox = 0x4000000000000011 :: [] ∧
      (0x4000000000000011#64).extractLsb' 62 2 = 0b01#2 ∧ (0x4000000000000011#64).extractLsb' 5 57 = 0 ∧
      17 ≤ ((0x4000000000000011#64).extractLsb' 0 5).toNat := by decide

theorem witness_StepWaitsWithoutTransaction : State.reset.inbox = [] := rfl

theorem witness_RunRecordsFirstStop :
    step (mon 3 3 false false false [0x8000000000000000]) =
        .next { mon 3 3 false false false with
          regs := resetRegs Config.reference 1, resets := 1 } ∧
      step (mon 3 3 false false false [0x400000000000000B]) = .fault (.unwrittenRead 11) ∧
      step (mon 3 3 false false false [0xC000000000000000]) = .refused (.reservedKind 0xC000000000000000) ∧
      (recordStop (.fault (.unwrittenRead 11)) State.reset).firstStop = some (.fault (.unwrittenRead 11)) :=
  ⟨rfl, rfl, rfl, rfl⟩

theorem witness_StopPriority :
    (mon 3 3 false false false [0xFFFFFFFFFFFFFFFF]).inbox = 0xFFFFFFFFFFFFFFFF :: [] ∧
      (0xFFFFFFFFFFFFFFFF#64).extractLsb' 62 2 = 0b11#2 ∧
      (mon 3 3 false false false [0x8000000000000001]).inbox = 0x8000000000000001 :: [] ∧
      (0x8000000000000001#64).extractLsb' 62 2 ≠ 0b11#2 ∧ decode 0x8000000000000001 = .reservedBits ∧
      16 < (17#5).toNat ∧ State.reset.regs.sessionWr = false := by decide

theorem witness_OnlyEventAndResetWriteRegisters :
    (advance (mon 3 3 false false false [frameWord])).regs ≠ (mon 3 3 false false false [frameWord]).regs := by
  intro h
  exact absurd (congrArg Regs.frameCount h) (by decide)

theorem witness_EncodeOfDecode : decode 0x0000671234560400 = .instr (.event 0 true 0x123456 0x7 0x06) := by decide

theorem witness_OpcodeMapDecidesDecoding :
    decode 0x4000000000000011 = .instr (.read 17) ∧
      (mon 3 3 false false false [0xC000000000000000]).inbox = 0xC000000000000000 :: [] ∧
      (∀ r ∈ opcodeTable, 0xC000000000000000 &&& r.mask ≠ r.pattern) ∧
      readRow ∈ opcodeTable ∧ 0x4000000000000011 &&& readRow.mask = readRow.pattern := by decide

theorem witness_AssembledFramesDecideAlarm :
    0xFFFFFF < 2 ^ 24 ∧ 0xF < 2 ^ 4 ∧ nextRole (mon 0 0 false false false) = .monitoredFrame := by decide

/-- The first and the last message position. -/
theorem witness_Crc4DetectsSingleNibbleChange :
    (1 : Nibble) ≠ (#v[0, 0, 0, 0, 0, 0, 0] : Msg)[(0 : Fin 7)] ∧
      (1 : Nibble) ≠ (#v[0, 0, 0, 0, 0, 0, 0] : Msg)[(6 : Fin 7)] := by decide

theorem witness_Crc4AffineForReferenceTable : Config.reference.crcTable = Config.refTable := rfl

/-- V-CRC-19 (the last byte wide), V-CRC-20 (the first), V-CRC-18 (none), and a byte at the bound. -/
theorem witness_Crc4BytesFaultsOnWideByte :
    (0x0F < ((#v[0x07, 0x03, 0x04, 0x05, 0x06, 0x01, 0x12] : Vector Byte 7)[(6 : Fin 7)]).toNat ∧
      ∀ j : Fin 7, j < 6 → ((#v[0x07, 0x03, 0x04, 0x05, 0x06, 0x01, 0x12] : Vector Byte 7)[j]).toNat ≤ 0x0F) ∧
      (0x0F < ((#v[0x10, 0, 0, 0, 0, 0, 0] : Vector Byte 7)[(0 : Fin 7)]).toNat ∧
      ∀ j : Fin 7, j < 0 → ((#v[0x10, 0, 0, 0, 0, 0, 0] : Vector Byte 7)[j]).toNat ≤ 0x0F) ∧
      ∀ i : Fin 7, ((#v[0x0F, 0, 0, 0, 0, 0, 0x0F] : Vector Byte 7)[i]).toNat ≤ 0x0F := by decide

/-- The three roles of EventEffect, at the bounds of their ranges. -/
theorem witness_EventEffect :
    nextRole (mon 2 3 false false false) = .warmupFrame ∧ nextRole (mon 255 0 false false false) = .warmupFrame ∧
      nextRole (mon 1 1 false false false) = .settleFrame ∧ nextRole (mon 0 255 false false false) = .settleFrame ∧
      nextRole (mon 1 0 false false false) = .monitoredFrame ∧
      nextRole (mon 0 0 true true true) = .monitoredFrame := by decide

theorem witness_EventEffect_workedExample :
    Config.reference.crcTable = Config.refTable ∧ Config.reference.crcSeed = 0x5#4 ∧ Config.reference.wInit = 3 := by
  decide

theorem witness_EventCounterSumRisesByPopcount : faultFlag 0x201 .rxovf = true ∧ faultFlag 0x201 .wdt = true := by
  decide

theorem witness_SuppressedFramesCompareNothing :
    nextRole (mon 2 3 false false false) ≠ .monitoredFrame ∧ nextRole (mon 0 1 false false false) ≠ .monitoredFrame := by
  decide

theorem witness_MonitoredFrameDecidesAlarm :
    nextRole (mon 0 0 false false false) = .monitoredFrame ∧ 0x0F < (0x10#8).toNat := by decide

/-- Two configurations, two histories, two frames (V-CRC-1 and V-CRC-2), one computed checksum. -/
def otherHistory : State :=
  { mon 1 0 true true true with cfg := { Config.reference with wInit := 7 } }

theorem witness_AlarmIsFrameLocal :
    crcOfFrame (mon 0 0 false false false) 0 0 = crcOfFrame otherHistory 0xFFFFFF 0xF ∧
      (mon 0 0 false false false).cfg ≠ otherHistory.cfg ∧
      nextRole (mon 0 0 false false false) = .monitoredFrame ∧ nextRole otherHistory = .monitoredFrame := by
  decide

theorem inv_mon_warmup : Inv (mon 3 3 false false false) :=
  ⟨by decide, by decide, by decide, by decide, by decide, by decide⟩
theorem inv_mon_two : Inv (mon 2 3 false false false) :=
  ⟨by decide, by decide, by decide, by decide, by decide, by decide⟩
theorem inv_mon_last_warmup : Inv (mon 1 3 false false false) :=
  ⟨by decide, by decide, by decide, by decide, by decide, by decide⟩
theorem inv_mon_settle_one : Inv (withInits 3 1 (mon 1 1 false false false)) :=
  ⟨by decide, by decide, by decide, by decide, by decide, by decide⟩
theorem inv_mon_settle_none : Inv (withInits 3 0 (mon 1 0 false false false)) :=
  ⟨by decide, by decide, by decide, by decide, by decide, by decide⟩
theorem inv_mon_settling : Inv (mon 0 2 false false false) :=
  ⟨by decide, by decide, by decide, by decide, by decide, by decide⟩
theorem inv_mon_settling_last : Inv (mon 0 1 false false false) :=
  ⟨by decide, by decide, by decide, by decide, by decide, by decide⟩
theorem inv_mon_alarm : Inv (mon 0 0 true true true) :=
  ⟨by decide, by decide, by decide, by decide, by decide, by decide⟩
theorem inv_mon_ok : Inv (mon 0 0 false false false) :=
  ⟨by decide, by decide, by decide, by decide, by decide, by decide⟩

/-- The frame of zeros: its CRC is 5, so received checksum 5 matches and 4 does not. -/
theorem zero_frame_crc : crcOfFrame (withInits 3 0 (mon 1 0 false false false)) 0 0 = 0x05 ∧
    crcOfFrame (mon 0 0 true true true) 0 0 = 0x05 := by decide

theorem witness_MonitorTransitionTable_warmup :
    Inv (mon 2 3 false false false) ∧ phase (mon 2 3 false false false).regs = .warmup ∧
      2 ≤ (mon 2 3 false false false).regs.warmRem.toNat := ⟨inv_mon_two, by decide, by decide⟩

theorem witness_MonitorTransitionTable_warmupToSettling :
    Inv (mon 1 3 false false false) ∧ phase (mon 1 3 false false false).regs = .warmup ∧
      (mon 1 3 false false false).regs.warmRem = 1 ∧ 2 ≤ (mon 1 3 false false false).regs.settleRem.toNat :=
  ⟨inv_mon_last_warmup, by decide, by decide, by decide⟩

theorem witness_MonitorTransitionTable_warmupToOk :
    Inv (withInits 3 1 (mon 1 1 false false false)) ∧
      phase (withInits 3 1 (mon 1 1 false false false)).regs = .warmup ∧
      (withInits 3 1 (mon 1 1 false false false)).regs.warmRem = 1 ∧
      (withInits 3 1 (mon 1 1 false false false)).regs.settleRem = 1 :=
  ⟨inv_mon_settle_one, by decide, by decide, by decide⟩

theorem witness_MonitorTransitionTable_warmupToCompare :
    Inv (withInits 3 0 (mon 1 0 false false false)) ∧
      phase (withInits 3 0 (mon 1 0 false false false)).regs = .warmup ∧
      (withInits 3 0 (mon 1 0 false false false)).regs.warmRem = 1 ∧
      (withInits 3 0 (mon 1 0 false false false)).regs.settleRem = 0 ∧
      crcOfFrame (withInits 3 0 (mon 1 0 false false false)) 0 0 = 0x05 ∧
      crcOfFrame (withInits 3 0 (mon 1 0 false false false)) 0 0 ≠ 0x04 :=
  ⟨inv_mon_settle_none, by decide, by decide, by decide, zero_frame_crc.1, by rw [zero_frame_crc.1]; decide⟩

theorem witness_MonitorTransitionTable_settling :
    Inv (mon 0 2 false false false) ∧ phase (mon 0 2 false false false).regs = .settling ∧
      2 ≤ (mon 0 2 false false false).regs.settleRem.toNat := ⟨inv_mon_settling, by decide, by decide⟩

theorem witness_MonitorTransitionTable_settlingToOk :
    Inv (mon 0 1 false false false) ∧ phase (mon 0 1 false false false).regs = .settling ∧
      (mon 0 1 false false false).regs.settleRem = 1 := ⟨inv_mon_settling_last, by decide, by decide⟩

theorem witness_MonitorTransitionTable_monitoring :
    Inv (mon 0 0 true true true) ∧ phase (mon 0 0 true true true).regs = .monitoringAlarm ∧
      Inv (mon 0 0 false false false) ∧ phase (mon 0 0 false false false).regs = .monitoringOk ∧
      crcOfFrame (mon 0 0 true true true) 0 0 = 0x05 ∧ crcOfFrame (mon 0 0 true true true) 0 0 ≠ 0x04 :=
  ⟨inv_mon_alarm, by decide, inv_mon_ok, by decide, zero_frame_crc.2, by rw [zero_frame_crc.2]; decide⟩

theorem witness_MonitoringLastsUntilReset :
    (mon 0 0 false false false [frameWord]).regs.warmRem = 0 ∧ (mon 0 0 false false false [frameWord]).regs.settleRem = 0 ∧
      noReset ((mon 0 0 false false false [frameWord]).inbox.take 1) := by decide

/-- Frames to number: six of them, after reset. -/
def sixFrames : State := mon 3 3 false false false (List.replicate 6 frameWord)

/-- Frame 2 is the last warm-up frame, 3 and 5 the first and last settling ones, 6 the first monitored. -/
theorem witness_FrameNumbersFixTheRole :
    sixFrames.regs.warmRem = sixFrames.cfg.wInit ∧ sixFrames.regs.settleRem = sixFrames.cfg.sInit ∧
      noReset (sixFrames.inbox.take 6) ∧ firstAfterWarmup sixFrames.cfg = 3 ∧
      frameTotal (sixFrames.inbox.take 1) + 1 ≤ sixFrames.cfg.wInit.toNat - 1 ∧
      firstAfterWarmup sixFrames.cfg ≤ frameTotal (sixFrames.inbox.take 2) + 1 ∧
      frameTotal (sixFrames.inbox.take 4) + 1 ≤ firstAfterWarmup sixFrames.cfg + sixFrames.cfg.sInit.toNat - 1 ∧
      firstAfterWarmup sixFrames.cfg + sixFrames.cfg.sInit.toNat ≤ frameTotal (sixFrames.inbox.take 5) + 1 ∧
      1 ≤ sixFrames.cfg.sInit.toNat ∧
      firstAfterWarmup sixFrames.cfg + sixFrames.cfg.sInit.toNat - 1 ≤ frameTotal (sixFrames.inbox.take 5) := by
  decide

theorem witness_TallyAndHeartbeatCountFrames :
    noReset (sixFrames.inbox.take 6) ∧ sixFrames.regs.warmRem = sixFrames.cfg.wInit ∧
      sixFrames.regs.settleRem = sixFrames.cfg.sInit := by decide

/-- Two FRAMECNT reads around a READ of CRCCALC, after a frame. -/
def tornReads : State :=
  { afterFrame with inbox := encode (.read 10) :: ([encode (.read 11)] ++ encode (.read 10) :: []) }

theorem witness_TornTelemetryDetected :
    tornReads.inbox = encode (.read 10) :: ([encode (.read 11)] ++ encode (.read 10) :: []) ∧
      noReset [encode (.read 11)] ∧ frameTotal [encode (.read 11)] < 2 ^ 32 ∧
      (advance tornReads).rdata = (advanceN 3 tornReads).rdata := by decide

theorem witness_session_written : afterFrame.regs.sessionWr = true := by decide

theorem witness_ReadReturnsCountersAndChecksums : afterFrame.regs.sessionWr = true := witness_session_written

/-- The four phases `MONSTAT` tells apart. -/
theorem witness_ReadMonStatFields :
    phase (mon 1 3 false false false).regs = .warmup ∧ phase (mon 0 1 false false false).regs = .settling ∧
      phase (mon 0 0 false false false).regs = .monitoringOk ∧
      phase (mon 0 0 true true false).regs = .monitoringAlarm := by decide

theorem inv_afterFrame : Inv afterFrame := ⟨by decide, by decide, by decide, by decide, by decide, by decide⟩

theorem witness_ReadPackedWordFields : afterFrame.regs.sessionWr = true ∧ Inv afterFrame :=
  ⟨witness_session_written, inv_afterFrame⟩

theorem witness_ReadUnwrittenSessionFaults : State.reset.regs.sessionWr = false := rfl

theorem witness_ReadReservedIndexRefused : 17 ≤ (17#5).toNat ∧ 17 ≤ (31#5).toNat := by decide

theorem witness_ReadCompletesAndWritesNothing :
    (16#5).toNat ≤ 16 ∧ afterFrame.regs.sessionWr = true ∧ (0#5).toNat ≤ 16 ∧ 0#5 ∉ [11#5, 12#5, 15#5, 16#5] ∧
      State.reset.regs.sessionWr = false ∧ 16#5 ∈ [11#5, 12#5, 15#5, 16#5] := by decide

theorem witness_ResetWritesEveryRegister : State.reset.cfg.wInit = 3 ∧ State.reset.cfg.sInit = 3 := by decide

theorem witness_ResetWritesEveryRegister_words :
    (0x8000000000000000#64).extractLsb' 62 2 = 0b10#2 ∧ (0x8000000000000001#64).extractLsb' 62 2 = 0b10#2 ∧
      (16#5) ∈ [11#5, 12, 15, 16] := by decide

theorem witness_ResetIsPowerOnAgain : State.reset = State.powerOn State.reset.cfg := rfl

theorem witness_OnlyResetGoesBack :
    noReset (sixFrames.inbox.take 1) ∧ phase (advance sixFrames).regs = .warmup := by decide

theorem witness_StepKeepsInvariant : Inv sixFrames ∧ ∃ t, step sixFrames = .next t :=
  ⟨⟨by decide, by decide, by decide, by decide, by decide, by decide⟩, _, rfl⟩

/-- Two machines whose unwritten session registers differ. -/
theorem witness_UnspecifiedSessionNeverObserved :
    AgreeOnSpecified { State.reset with regs := withSession ⟨0, 0, 0, 0, 0, 0⟩ State.reset.regs }
      { State.reset with regs := withSession ⟨1, 2, 3, 4, 5, 6⟩ State.reset.regs } :=
  ⟨rfl, rfl, rfl, rfl, rfl, fun h => absurd h (by decide)⟩

theorem witness_BadConfigurationRefused : validParams Config.referenceParams := by decide

end Sys2Proof.Tests
end

namespace Sys2Proof.Machine

/-! The configuration along a run (spec/10_state.md R38). -/

/-- One step of a run writes no parameter, whichever transaction it performs or stops at. -/
@[simp] theorem advance_cfg (s : State) : (advance s).cfg = s.cfg := (advance_cases s).1

@[simp] theorem advanceN_zero (s : State) : advanceN 0 s = s := rfl

@[simp] theorem advanceN_succ (n : Nat) (s : State) : advanceN (n + 1) s = advanceN n (advance s) := rfl

@[simp] theorem advanceN_cfg (n : Nat) (s : State) : (advanceN n s).cfg = s.cfg := by
  induction n generalizing s with
  | zero => rfl
  | succ n ih =>
    calc (advanceN (n + 1) s).cfg
      _ = (advanceN n (advance s)).cfg := by rw [advanceN_succ]
      _ = (advance s).cfg := ih (advance s)
      _ = s.cfg := advance_cfg s

/-- Settles O9, by induction on the number of steps: each step of the run keeps the configuration. -/
theorem noTransactionWritesConfiguration : Obligations.NoTransactionWritesConfiguration :=
  advanceN_cfg

end Sys2Proof.Machine

namespace Sys2Proof.Machine

/-! What a READ answers, and what a step does with a delivered one (spec/44_event_readout.md R200). -/

/-- A READ of a reserved index is refused (spec/20_memory.md R52). -/
theorem exec_read_reserved {reg : BitVec 5} (s : State) (h : 17 ≤ reg.toNat) :
    exec (.read reg) s = .refused (.reservedReg reg) := by
  have hnone : regOfIndex reg = none := (regOfIndex_eq_none_iff reg).mpr h
  simp [exec, execRead, hnone]

/-- A READ of a session word faults before the first frame (spec/60_exceptions.md R224). -/
theorem exec_read_unwritten {reg : BitVec 5} {n : RegName} {s : State} (hn : regOfIndex reg = some n)
    (hsession : isSessionWord n = true) (hwr : s.regs.sessionWr = false) :
    exec (.read reg) s = .fault (.unwrittenRead reg) := by
  simp [exec, execRead, hn, hsession, hwr]

/-- Any other READ completes with its word, and only `rdata` changes (spec/20_memory.md R58). -/
theorem exec_read_next {reg : BitVec 5} {n : RegName} {s : State} (hn : regOfIndex reg = some n)
    (hwr : isSessionWord n = true → s.regs.sessionWr = true) :
    exec (.read reg) s = .next { s with rdata := some (readReg n s.regs) } := by
  cases hsession : isSessionWord n with
  | false => simp [exec, execRead, doneWith, hn, hsession]
  | true => simp [exec, execRead, doneWith, hn, hsession, hwr hsession]

/-- The word of a READ decodes to it, reserved indices included (spec/30_encoding.md R74, R77). -/
theorem decode_encode_read (reg : BitVec 5) : decode (encode (.read reg)) = .instr (.read reg) := by
  revert reg
  decide

/-- A delivered word that decodes is performed by the next step (spec/20_memory.md R60). -/
theorem step_deliverNext {w : TxWord} {i : Instr} (s : State) (hd : decode w = .instr i) :
    step (deliverNext w s) = exec i s := by
  rw [step_cons (deliverNext_inbox w s), performWord, hd]
  rfl

/-- Settles O39: the step of the delivered READ is the refusal of its index, and a run keeps of a refusal
what `recordStop` keeps. -/
theorem readReservedIndexRefused : Obligations.ReadReservedIndexRefused := by
  intro s reg h
  have hexec := exec_read_reserved s h
  have hstep : step (deliverNext (encode (.read reg)) s) = .refused (.reservedReg reg) :=
    (step_deliverNext s (decode_encode_read reg)).trans hexec
  refine ⟨hexec, ?_, ?_⟩ <;> simp [advance_refused hstep]

/-- Settles O8: of the three things a step of a run can do, the one that is neither an EVENT nor a RESET
keeps the registers. -/
theorem onlyEventAndResetWriteRegisters : Obligations.OnlyEventAndResetWriteRegisters := by
  intro s hchange
  obtain ⟨-, -, ⟨hkeep, -⟩ | ⟨w, rest, flt, fc, raw, stat, rcrc, hi, hd, -⟩ | ⟨w, rest, hi, hd, -⟩⟩ :=
    advance_cases s
  · exact absurd hkeep hchange
  · exact ⟨w, rest, hi, .inl ⟨flt, fc, raw, stat, rcrc, hd⟩⟩
  · exact ⟨w, rest, hi, .inr hd⟩

/-! The fields of `MONSTAT` (spec/20_memory.md R53). -/

theorem monStatWord_alarm (r : Regs) : (monStatWord r).getLsbD 0 = r.alarmActive := by
  simp only [monStatWord, BitVec.getLsbD_append]
  simp

theorem monStatWord_phase (r : Regs) : (monStatWord r).extractLsb' 1 2 = phaseCode (phase r) := by
  unfold monStatWord
  rw [BitVec.extractLsb'_append_eq_of_le (by decide)]
  exact BitVec.extractLsb'_append_eq_right

theorem monStatWord_alarmInd (r : Regs) : (monStatWord r).getLsbD 3 = r.alarmInd := by
  simp only [monStatWord, BitVec.getLsbD_append]
  simp

theorem monStatWord_heartbeatInd (r : Regs) : (monStatWord r).getLsbD 4 = r.heartbeatInd := by
  simp only [monStatWord, BitVec.getLsbD_append]
  simp

theorem monStatWord_reserved (r : Regs) : (monStatWord r).extractLsb' 5 27 = 0 := by
  simp only [monStatWord, BitVec.extractLsb'_append_eq_of_le, Nat.reduceLeDiff, Nat.reduceSub]
  rfl

theorem phaseCode_ne_three (p : Phase) : phaseCode p ≠ 0b11#2 := by
  cases p <;> decide

/-- Settles O36: the word READ 13 returns is `monStatWord`, whose fields the lemmas above read off. -/
theorem readMonStatFields : Obligations.ReadMonStatFields := by
  intro s
  have hphase := monStatWord_phase s.regs
  refine ⟨monStatWord s.regs, exec_read_next (n := .monStat) rfl nofun, monStatWord_alarm _,
    ?warmup, ?settling, ?monitoring, ?reserved, monStatWord_alarmInd _, monStatWord_heartbeatInd _,
    monStatWord_reserved _⟩
  case warmup => intro h; rw [hphase, h]; rfl
  case settling => intro h; rw [hphase, h]; rfl
  case monitoring => rintro (h | h) <;> rw [hphase, h] <;> rfl
  case reserved => rw [hphase]; exact phaseCode_ne_three _

/-! The fields of the packed words (spec/20_memory.md R54). -/

/-- The high field of two packed fields under a zero extension. -/
theorem extract_packed_high {m n k : Nat} (hi : BitVec m) (lo : BitVec n) (h : n + m ≤ k) :
    ((hi ++ lo).setWidth k).extractLsb' n m = hi := by
  rw [BitVec.extractLsb'_setWidth_of_le h, BitVec.extractLsb'_append_eq_left]

/-- The low field of two packed fields under a zero extension. -/
theorem extract_packed_low {m n k : Nat} (hi : BitVec m) (lo : BitVec n) (h : n ≤ k) :
    ((hi ++ lo).setWidth k).extractLsb' 0 n = lo := by
  rw [BitVec.extractLsb'_setWidth_of_le (by omega), BitVec.extractLsb'_append_eq_right]

/-- The bits a zero extension adds are 0. -/
theorem extract_above_setWidth {w : Nat} (x : BitVec w) (v k : Nat) :
    (x.setWidth v).extractLsb' w k = 0#k := by
  ext i hi
  simp

/-- R40(e) puts the stored payload back together to the raw capture (spec/10_state.md R31). -/
theorem Inv.payload_eq_rawData {s : State} (hinv : Inv s) (hwr : s.regs.sessionWr = true) :
    s.regs.paySecondary ++ s.regs.payPrimary = s.regs.rawData := by
  obtain ⟨-, hprimary, hsecondary⟩ := hinv.session_consistent hwr
  rw [hprimary, hsecondary]
  exact BitVec.extractLsb'_append_extractLsb' (w := 8) (len := 16)

/-- Settles O37: each word is two fields packed and zero-extended; under R40(e) the payload fields of
PAYLOAD and the raw data of RAWFRAME are one value. -/
theorem readPackedWordFields : Obligations.ReadPackedWordFields := by
  refine ⟨fun s => ?_, fun s hwr => ?_⟩
  · exact ⟨_, exec_read_next (n := .monRem) rfl nofun, extract_packed_low _ _ (by decide),
      extract_packed_high _ _ (by decide), extract_above_setWidth _ _ _⟩
  · refine ⟨_, _, exec_read_next (n := .rawFrame) rfl fun _ => hwr, extract_packed_low _ _ (by decide),
      extract_packed_high _ _ (by decide), extract_above_setWidth _ _ _,
      exec_read_next (n := .payload) rfl fun _ => hwr, extract_packed_low _ _ (by decide),
      extract_packed_high _ _ (by decide), extract_above_setWidth _ _ _, fun hinv => ?_⟩
    calc ((s.regs.paySecondary ++ s.regs.payPrimary).setWidth 32).extractLsb' 0 24
      _ = s.regs.paySecondary ++ s.regs.payPrimary := by
        rw [BitVec.extractLsb'_setWidth_of_le (by decide)]; exact BitVec.extractLsb'_eq_self
      _ = s.regs.rawData := hinv.payload_eq_rawData hwr
      _ = ((s.regs.rawStatus ++ s.regs.rawData).setWidth 32).extractLsb' 0 24 :=
        (extract_packed_low _ _ (by decide)).symm

/-! The widths of the read words (spec/20_memory.md R51, R58). -/

/-- How many bits of a read word can be set: the width of its register, or of its packed fields. -/
def readWidth : RegName → Nat
  | .errCnt _ => 32
  | .frameCnt => 32
  | .crcCalc => 8
  | .crcRecv => 8
  | .monStat => 5
  | .monRem => 16
  | .rawFrame => 28
  | .payload => 24

theorem monStatWord_lt (r : Regs) : (monStatWord r).toNat < 2 ^ 5 := by
  have h := congrArg BitVec.toNat (monStatWord_reserved r)
  simp only [BitVec.extractLsb'_toNat, Nat.shiftRight_eq_div_pow, BitVec.ofNat_eq_ofNat, BitVec.toNat_ofNat] at h
  omega

/-- A zero extension keeps the value below the bound of the narrower width. -/
theorem toNat_setWidth_lt {w v : Nat} (x : BitVec w) (h : w ≤ v) : (x.setWidth v).toNat < 2 ^ w :=
  (BitVec.toNat_setWidth_of_le h).trans_lt x.isLt

theorem readReg_lt (n : RegName) (r : Regs) : (readReg n r).toNat < 2 ^ readWidth n := by
  cases n with
  | errCnt k => exact (r.errCnt.get k).isLt
  | frameCnt => exact r.frameCount.isLt
  | monStat => exact monStatWord_lt r
  | crcCalc | crcRecv | monRem | rawFrame | payload => exact toNat_setWidth_lt _ (by decide)

/-- Settles O40: a defined index names a word, and that word is the result unless it is a session word that
no frame has written. -/
theorem readCompletesAndWritesNothing : Obligations.ReadCompletesAndWritesNothing := by
  intro s reg hreg
  obtain ⟨n, hn⟩ : ∃ n, regOfIndex reg = some n :=
    Option.ne_none_iff_exists'.mp fun hnone => by
      have := (regOfIndex_eq_none_iff reg).mp hnone
      omega
  have hsession := isSessionWord_iff reg n hn
  refine ⟨fun h => ?_, fun ⟨hwr, hmem⟩ => exec_read_unwritten hn (hsession.mpr hmem) hwr⟩
  have hwr : isSessionWord n = true → s.regs.sessionWr = true := fun hs =>
    h.resolve_right fun hmem => hmem (hsession.mp hs)
  have hlt (m : RegName) (hm : reg = regIndex m) : (readReg n s.regs).toNat < 2 ^ readWidth m := by
    obtain rfl : n = m := Option.some.inj (hn.symm.trans (hm ▸ regOfIndex_regIndex m))
    exact readReg_lt n s.regs
  exact ⟨readReg n s.regs, exec_read_next hn hwr, exec_read_next hn hwr,
    fun hm => hm.elim (hlt .crcCalc) (hlt .crcRecv), hlt .monStat, hlt .monRem, hlt .rawFrame, hlt .payload⟩

end Sys2Proof.Machine

namespace Sys2Proof.Machine

/-! What each kind of word decodes to (spec/30_encoding.md R80). -/

theorem kindField_cases (w : TxWord) :
    kindField w = 0b00#2 ∨ kindField w = 0b01#2 ∨ kindField w = 0b10#2 ∨ kindField w = 0b11#2 := by
  have hall : ∀ k : BitVec 2, k = 0b00#2 ∨ k = 0b01#2 ∨ k = 0b10#2 ∨ k = 0b11#2 := by decide
  exact hall (kindField w)

theorem decode_eventKind {w : TxWord} (h : kindField w = 0b00#2) :
    decode w = if rsv1Field w ≠ 0 ∨ rsv0Field w ≠ 0 then .reservedBits
      else .instr (.event (fltField w) (fcField w) (rawField w) (statField w) (rcrcField w)) := by
  simp [decode, h]

theorem decode_readKind {w : TxWord} (h : kindField w = 0b01#2) :
    decode w = if readRsvField w ≠ 0 then .reservedBits else .instr (.read (regField w)) := by
  simp [decode, h]

theorem decode_resetKind {w : TxWord} (h : kindField w = 0b10#2) :
    decode w = if resetRsvField w ≠ 0 then .reservedBits else .instr .reset := by
  simp [decode, h]

theorem decode_reservedKind {w : TxWord} (h : kindField w = 0b11#2) : decode w = .reservedKind := by
  simp [decode, h]

/-- The words that decode: three kinds, their reserved bits 0, and then the transaction of their fields. -/
theorem decode_eq_instr_iff (w : TxWord) (i : Instr) :
    decode w = .instr i ↔
      (kindField w = 0b00#2 ∧ (rsv1Field w = 0 ∧ rsv0Field w = 0) ∧
        .event (fltField w) (fcField w) (rawField w) (statField w) (rcrcField w) = i) ∨
      (kindField w = 0b01#2 ∧ readRsvField w = 0 ∧ .read (regField w) = i) ∨
      (kindField w = 0b10#2 ∧ resetRsvField w = 0 ∧ .reset = i) := by
  obtain h | h | h | h := kindField_cases w
  · rw [decode_eventKind h]
    by_cases h₁ : rsv1Field w = 0#10 <;> by_cases h₀ : rsv0Field w = 0#5 <;> simp [h, h₁, h₀]
  · rw [decode_readKind h]
    by_cases hr : readRsvField w = 0#57 <;> simp [h, hr]
  · rw [decode_resetKind h]
    by_cases hr : resetRsvField w = 0#62 <;> simp [h, hr]
  · simp [decode_reservedKind h, h]

/-! A refused word (spec/60_exceptions.md R221, R222, R225). -/

theorem step_reservedKind {s : State} {w : TxWord} {rest : List TxWord} (hi : s.inbox = w :: rest)
    (hd : decode w = .reservedKind) : step s = .refused (.reservedKind w) := by
  rw [step_cons hi, performWord, hd]

theorem step_reservedBits {s : State} {w : TxWord} {rest : List TxWord} (hi : s.inbox = w :: rest)
    (hd : decode w = .reservedBits) : step s = .refused (.reservedBits w) := by
  rw [step_cons hi, performWord, hd]

/-- A refusal changes no register, and a run that goes on keeps them (spec/60_exceptions.md R221). -/
theorem advance_regs_of_refused {s : State} {r : Refusal} (h : step s = .refused r) :
    (advance s).regs = s.regs := by
  simp [advance_refused h]

/-- A word that spells no transaction is refused for its kind or for its reserved bits. -/
theorem step_refused_of_not_instr {s : State} {w : TxWord} {rest : List TxWord} (hi : s.inbox = w :: rest)
    (hd : ∀ i, decode w ≠ .instr i) :
    step s = .refused (.reservedKind w) ∨ step s = .refused (.reservedBits w) := by
  cases h : decode w with
  | instr i => exact absurd h (hd i)
  | reservedKind => exact .inl (step_reservedKind hi h)
  | reservedBits => exact .inr (step_reservedBits hi h)

/-- Settles O2: the decoder answers the kind first, and a run keeps of a refusal what `recordStop` keeps. -/
theorem stepRefusesReservedKind : Obligations.StepRefusesReservedKind := by
  intro s w rest hi hkind
  have hd : decode w = .reservedKind := decode_reservedKind hkind
  have hstep := step_reservedKind hi hd
  exact ⟨by simp [hd], hstep, advance_regs_of_refused hstep, advance_cfg s⟩

/-- Settles O3: each of the three formats sends a 1 in its reserved bits to `reservedBits`; a READ word
without one decodes whatever its index is, and `exec` refuses the reserved index. -/
theorem stepRefusesReservedBits : Obligations.StepRefusesReservedBits := by
  refine ⟨fun s w rest hi hbits => ?_, fun s w rest hi hkind hrsv hreg => ?_⟩
  · have hd : decode w = .reservedBits := by
      obtain ⟨hkind, hrsv⟩ | ⟨hkind, hrsv⟩ | ⟨hkind, hrsv⟩ := hbits
      · exact (decode_eventKind hkind).trans (if_pos hrsv.symm)
      · exact (decode_readKind hkind).trans (if_pos hrsv)
      · exact (decode_resetKind hkind).trans (if_pos hrsv)
    have hstep := step_reservedBits hi hd
    exact ⟨by simp [hd], hstep, advance_regs_of_refused hstep, advance_cfg s⟩
  · have hd : decode w = .instr (.read (regField w)) :=
      (decode_eq_instr_iff w _).mpr (.inr (.inl ⟨hkind, hrsv, rfl⟩))
    refine ⟨hd, ?_⟩
    calc step s
      _ = performWord w { s with inbox := rest } := step_cons hi
      _ = exec (.read (regField w)) { s with inbox := rest } := by rw [performWord, hd]
      _ = .refused (.reservedReg (regField w)) := exec_read_reserved _ hreg

/-! A word is its fields: `KIND`, the reserved bits of a format, and the operand bits. -/

/-- A run of bits is fixed by its `high` upper and its `low` lower bits. -/
theorem extract_eq_iff_split {x y : TxWord} (start high low : Nat) :
    x.extractLsb' start (high + low) = y.extractLsb' start (high + low) ↔
      x.extractLsb' (start + low) high = y.extractLsb' (start + low) high ∧
        x.extractLsb' start low = y.extractLsb' start low := by
  have hx := BitVec.extractLsb'_append_extractLsb'_eq_extractLsb' (x := x) (len₂ := high) (Eq.refl (start + low))
  have hy := BitVec.extractLsb'_append_extractLsb'_eq_extractLsb' (x := y) (len₂ := high) (Eq.refl (start + low))
  refine ⟨fun h => ?_, fun ⟨hhigh, hlow⟩ => by rw [← hx, ← hy, hhigh, hlow]⟩
  rw [← hx, ← hy] at h
  exact ⟨by simpa only [BitVec.extractLsb'_append_eq_left] using congrArg (BitVec.extractLsb' low high) h,
    by simpa only [BitVec.extractLsb'_append_eq_right] using congrArg (BitVec.extractLsb' 0 low) h⟩

/-- The RESET format: bits 61:0 below `KIND` (spec/30_encoding.md R75). -/
theorem eq_iff_resetFormat (x y : TxWord) :
    x = y ↔ kindField x = kindField y ∧ resetRsvField x = resetRsvField y := by
  have hsplit := extract_eq_iff_split (x := x) (y := y) 0 2 62
  rwa [BitVec.extractLsb'_eq_self, BitVec.extractLsb'_eq_self] at hsplit

/-- The READ format (spec/30_encoding.md R74). -/
theorem eq_iff_readFormat (x y : TxWord) :
    x = y ↔ kindField x = kindField y ∧ readRsvField x = readRsvField y ∧ regField x = regField y :=
  (eq_iff_resetFormat x y).trans (and_congr_right fun _ => extract_eq_iff_split 0 57 5)

/-- The EVENT format, with the operand bits 51:16 and 10:0 each taken together (spec/30_encoding.md R72). -/
theorem eq_iff_eventFormat (x y : TxWord) :
    x = y ↔ kindField x = kindField y ∧ rsv1Field x = rsv1Field y ∧ x.extractLsb' 16 36 = y.extractLsb' 16 36 ∧
      rsv0Field x = rsv0Field y ∧ x.extractLsb' 0 11 = y.extractLsb' 0 11 :=
  (eq_iff_resetFormat x y).trans <| and_congr_right fun _ =>
    (extract_eq_iff_split 0 10 52).trans <| and_congr_right fun _ =>
      (extract_eq_iff_split 0 36 16).trans <| and_congr_right fun _ => extract_eq_iff_split 0 5 11

/-! The opcode map by fields: a mask covers `KIND` and the reserved bits of its format
(spec/30_encoding.md R81). -/

theorem kindField_and (x y : TxWord) : kindField (x &&& y) = kindField x &&& kindField y := BitVec.extractLsb'_and
theorem rsv1Field_and (x y : TxWord) : rsv1Field (x &&& y) = rsv1Field x &&& rsv1Field y := BitVec.extractLsb'_and
theorem rsv0Field_and (x y : TxWord) : rsv0Field (x &&& y) = rsv0Field x &&& rsv0Field y := BitVec.extractLsb'_and
theorem readRsvField_and (x y : TxWord) : readRsvField (x &&& y) = readRsvField x &&& readRsvField y :=
  BitVec.extractLsb'_and
theorem regField_and (x y : TxWord) : regField (x &&& y) = regField x &&& regField y := BitVec.extractLsb'_and

theorem matches_eventRow_iff (w : TxWord) :
    w &&& eventRow.mask = eventRow.pattern ↔ kindField w = 0b00#2 ∧ rsv1Field w = 0 ∧ rsv0Field w = 0 := by
  have hkind : kindField eventRow.mask = BitVec.allOnes 2 ∧ kindField eventRow.pattern = 0b00#2 := by decide
  have hrsv1 : rsv1Field eventRow.mask = BitVec.allOnes 10 ∧ rsv1Field eventRow.pattern = 0 := by decide
  have hhigh : eventRow.mask.extractLsb' 16 36 = 0 ∧ eventRow.pattern.extractLsb' 16 36 = 0 := by decide
  have hrsv0 : rsv0Field eventRow.mask = BitVec.allOnes 5 ∧ rsv0Field eventRow.pattern = 0 := by decide
  have hlow : eventRow.mask.extractLsb' 0 11 = 0 ∧ eventRow.pattern.extractLsb' 0 11 = 0 := by decide
  simp only [eq_iff_eventFormat, kindField_and, rsv1Field_and, rsv0Field_and, BitVec.extractLsb'_and,
    hkind, hrsv1, hhigh, hrsv0, hlow, BitVec.and_allOnes, BitVec.ofNat_eq_ofNat, BitVec.and_zero, true_and, and_true]

theorem matches_readRow_iff (w : TxWord) :
    w &&& readRow.mask = readRow.pattern ↔ kindField w = 0b01#2 ∧ readRsvField w = 0 := by
  have hkind : kindField readRow.mask = BitVec.allOnes 2 ∧ kindField readRow.pattern = 0b01#2 := by decide
  have hrsv : readRsvField readRow.mask = BitVec.allOnes 57 ∧ readRsvField readRow.pattern = 0 := by decide
  have hreg : regField readRow.mask = 0 ∧ regField readRow.pattern = 0 := by decide
  simp only [eq_iff_readFormat, kindField_and, readRsvField_and, regField_and, hkind, hrsv, hreg,
    BitVec.and_allOnes, BitVec.ofNat_eq_ofNat, BitVec.and_zero, and_true]

theorem matches_resetRow_iff (w : TxWord) :
    w &&& resetRow.mask = resetRow.pattern ↔ kindField w = 0b10#2 ∧ resetRsvField w = 0 := by
  have hmask : resetRow.mask = BitVec.allOnes 64 := by decide
  have hpattern : kindField resetRow.pattern = 0b10#2 ∧ resetRsvField resetRow.pattern = 0 := by decide
  rw [hmask, BitVec.and_allOnes, eq_iff_resetFormat, hpattern.1, hpattern.2]

theorem opcodeRowOf_mem (i : Instr) : opcodeRowOf i ∈ opcodeTable := by
  cases i <;> simp [opcodeRowOf, opcodeTable]

/-- A word that decodes matches the row of its transaction (spec/30_encoding.md R81). -/
theorem matches_opcodeRowOf {w : TxWord} {i : Instr} (h : decode w = .instr i) :
    w &&& (opcodeRowOf i).mask = (opcodeRowOf i).pattern := by
  obtain ⟨hkind, hrsv, rfl⟩ | ⟨hkind, hrsv, rfl⟩ | ⟨hkind, hrsv, rfl⟩ := (decode_eq_instr_iff w i).mp h
  · exact (matches_eventRow_iff w).mpr ⟨hkind, hrsv⟩
  · exact (matches_readRow_iff w).mpr ⟨hkind, hrsv⟩
  · exact (matches_resetRow_iff w).mpr ⟨hkind, hrsv⟩

/-- A word that matches a row decodes to a transaction of that row (spec/30_encoding.md R81). -/
theorem decodes_of_matches {w : TxWord} {r : OpcodeRow} (hr : r ∈ opcodeTable) (h : w &&& r.mask = r.pattern) :
    ∃ i, decode w = .instr i ∧ opcodeRowOf i = r := by
  simp only [opcodeTable, List.mem_cons, List.not_mem_nil, or_false] at hr
  obtain rfl | rfl | rfl := hr
  · obtain ⟨hkind, hrsv⟩ := (matches_eventRow_iff w).mp h
    exact ⟨_, (decode_eq_instr_iff w _).mpr (.inl ⟨hkind, hrsv, rfl⟩), rfl⟩
  · obtain ⟨hkind, hrsv⟩ := (matches_readRow_iff w).mp h
    exact ⟨_, (decode_eq_instr_iff w _).mpr (.inr (.inl ⟨hkind, hrsv, rfl⟩)), rfl⟩
  · obtain ⟨hkind, hrsv⟩ := (matches_resetRow_iff w).mp h
    exact ⟨_, (decode_eq_instr_iff w _).mpr (.inr (.inr ⟨hkind, hrsv, rfl⟩)), rfl⟩

/-- Settles O13: a word matches a row exactly when it decodes to a transaction of that row, and the decoder
answers one transaction for a word, so it matches one row. -/
theorem opcodeMapDecidesDecoding : Obligations.OpcodeMapDecidesDecoding := by
  have hmatch : ∀ w : TxWord, (∃ r ∈ opcodeTable, w &&& r.mask = r.pattern) ↔ ∃ i, decode w = .instr i := fun w =>
    ⟨fun ⟨_, hr, h⟩ => (decodes_of_matches hr h).imp fun _ => And.left,
      fun ⟨i, hd⟩ => ⟨opcodeRowOf i, opcodeRowOf_mem i, matches_opcodeRowOf hd⟩⟩
  refine ⟨rfl, hmatch, fun w i hd => ⟨opcodeRowOf_mem i, matches_opcodeRowOf hd⟩, ?unmatched, ?oneRow⟩
  case unmatched =>
    intro s w rest hi hnone
    refine step_refused_of_not_instr hi fun i hd => ?_
    obtain ⟨r, hr, h⟩ := (hmatch w).mpr ⟨i, hd⟩
    exact hnone r hr h
  case oneRow =>
    intro w r₁ r₂ hr₁ hr₂ h₁ h₂
    obtain ⟨i, hi, rfl⟩ := decodes_of_matches hr₁ h₁
    obtain ⟨j, hj, rfl⟩ := decodes_of_matches hr₂ h₂
    obtain rfl : i = j := Decoded.instr.inj (hi.symm.trans hj)
    rfl

/-! The fields of an encoded EVENT (spec/30_encoding.md R72). -/

section EncodedEvent
variable (flt : BitVec 10) (fc : Bool) (raw : RawCapture) (stat : Nibble) (rcrc : Byte)

@[simp] theorem fltField_encode_event : fltField (encode (.event flt fc raw stat rcrc)) = flt := by
  ext i hi
  have h : i < 64 ∧ i < 44 ∧ i < 40 ∧ i < 16 := by omega
  simp [fltField, encode, h, hi]

@[simp] theorem fcField_encode_event : fcField (encode (.event flt fc raw stat rcrc)) = fc := by
  simp [fcField, encode]

@[simp] theorem rawField_encode_event : rawField (encode (.event flt fc raw stat rcrc)) = raw := by
  ext i hi
  have h : 16 + i < 44 ∧ 16 + i < 40 := by omega
  simp (disch := omega) [rawField, encode, h, BitVec.getLsbD_of_ge]

@[simp] theorem statField_encode_event : statField (encode (.event flt fc raw stat rcrc)) = stat := by
  ext i hi
  have h : 40 + i < 44 := by omega
  simp (disch := omega) [statField, encode, h, BitVec.getLsbD_of_ge]

@[simp] theorem rcrcField_encode_event : rcrcField (encode (.event flt fc raw stat rcrc)) = rcrc := by
  ext i hi
  simp (disch := omega) [rcrcField, encode, BitVec.getLsbD_of_ge]

/-- The word of an EVENT decodes to it, whatever its operands (spec/30_encoding.md R72, R73). -/
theorem decode_encode_event :
    decode (encode (.event flt fc raw stat rcrc)) = .instr (.event flt fc raw stat rcrc) := by
  obtain ⟨hkind, hrsv⟩ := (matches_eventRow_iff _).mp (Laws.MatchesOpcodeRow.event flt fc raw stat rcrc)
  exact (decode_eq_instr_iff _ _).mpr (.inl ⟨hkind, hrsv, by simp⟩)

end EncodedEvent

/-- What an EVENT without frame-complete leaves: CLASSIFY alone has run (spec/44_event_readout.md R191). -/
theorem exec_event_without_fc (flt : BitVec 10) (raw : RawCapture) (stat : Nibble) (rcrc : Byte) (s : State) :
    exec (.event flt false raw stat rcrc) s = .next { s with regs := classify flt s.regs, rdata := none } :=
  execEvent_eq flt false raw stat rcrc s

/-- Settles O24: an EVENT without frame-complete leaves what CLASSIFY leaves, in which no frame field
stands. -/
theorem eventIgnoresFrameFieldsWithoutFC : Obligations.EventIgnoresFrameFieldsWithoutFC := by
  intro s flt raw raw' stat stat' rcrc rcrc'
  refine ⟨?_, decode_encode_event flt false raw stat rcrc⟩
  rw [exec_event_without_fc, exec_event_without_fc]

end Sys2Proof.Machine

namespace Sys2Proof.Machine

/-! CRC4 as a loop over the seven nibbles (spec/40_crc4.md R103, R107, R108). -/

theorem msg_toList (m : Msg) : m.toList = [m[0], m[1], m[2], m[3], m[4], m[5], m[6]] := by
  match m with
  | ⟨⟨[_, _, _, _, _, _, _]⟩, _⟩ => rfl

/-- Settles O15: the loop over the seven nibbles, written out. -/
theorem crc4IsSevenStepsInOrder : Obligations.Crc4IsSevenStepsInOrder := by
  intro cfg m
  rw [crc4, msg_toList]
  rfl

/-- CRC4 with one nibble replaced: the loop up to it, one step on it, the loop over the rest. -/
theorem crc4_set (cfg : Config) (m : Msg) (i : Fin 7) (x : Nibble) :
    crc4 cfg (m.set i x) = (m.toList.drop (i + 1)).foldl (crcStep cfg)
      (crcStep cfg ((m.toList.take i).foldl (crcStep cfg) cfg.crcSeed) x) := by
  have hi : (i : Nat) < m.toList.length := by simp
  rw [crc4, Vector.toList_set, List.set_eq_take_append_cons_drop, if_pos hi, List.foldl_append, List.foldl_cons]

/-- With the other six nibbles fixed, CRC4 is one to one in the nibble at any position. -/
theorem crc4_set_injective (cfg : Config) (m : Msg) (i : Fin 7) :
    Function.Injective fun x : Nibble => crc4 cfg (m.set i x) := by
  intro x y h
  simp only [crc4_set] at h
  exact crcStep_injective_nibble cfg _ (crcFold_injective_acc cfg _ h)

/-- Settles O16: replacing one nibble is one to one, and on sixteen nibbles that is also onto. -/
theorem crc4DetectsSingleNibbleChange : Obligations.Crc4DetectsSingleNibbleChange := by
  refine ⟨fun cfg m => Nat.le_of_lt_succ (crc4 cfg m).isLt, fun cfg m i x hx h => ?changed, fun cfg m => ?last⟩
  case changed =>
    have hself : m.set i m[i] = m := Vector.set_getElem_self _
    exact hx (crc4_set_injective cfg m i (h.trans (congrArg (crc4 cfg) hself.symm)))
  case last => exact Finite.injective_iff_bijective.mp (crc4_set_injective cfg m 6)

/-- The default table is linear (spec/40_crc4.md R108). -/
theorem crcTableAt_xor {cfg : Config} (h : cfg.crcTable = Config.refTable) (x y : Nibble) :
    crcTableAt cfg (x ^^^ y) = crcTableAt cfg x ^^^ crcTableAt cfg y := by
  have hlin : ∀ x y : Nibble, Config.refTable[(x ^^^ y).toNat] =
      Config.refTable[x.toNat] ^^^ Config.refTable[y.toNat] := by decide
  simp only [crcTableAt, h, hlin]

theorem crcStep_xor {cfg : Config} (h : cfg.crcTable = Config.refTable) (p q x y : Nibble) :
    crcStep cfg (p ^^^ q) (x ^^^ y) = crcStep cfg p x ^^^ crcStep cfg q y := by
  simp only [crcStep, crcTableAt_xor h]
  ac_rfl

/-- Under the default table the loop is linear in its start value and its nibbles together. -/
theorem crcFold_xor {cfg : Config} (h : cfg.crcTable = Config.refTable) {as bs : List Nibble}
    (hlen : as.length = bs.length) (p q : Nibble) :
    (List.zipWith (· ^^^ ·) as bs).foldl (crcStep cfg) (p ^^^ q) =
      as.foldl (crcStep cfg) p ^^^ bs.foldl (crcStep cfg) q := by
  induction as generalizing bs p q with
  | nil => obtain rfl := List.length_eq_zero_iff.mp hlen.symm; rfl
  | cons a as ih =>
    cases bs with
    | nil => cases hlen
    | cons b bs =>
      simp only [List.zipWith_cons_cons, List.foldl_cons, crcStep_xor h]
      exact ih (Nat.succ.inj hlen) _ _

theorem crcFold_xor_msg {cfg : Config} (h : cfg.crcTable = Config.refTable) (a b : Msg) (p q : Nibble) :
    (Vector.zipWith (· ^^^ ·) a b).toList.foldl (crcStep cfg) (p ^^^ q) =
      a.toList.foldl (crcStep cfg) p ^^^ b.toList.foldl (crcStep cfg) q := by
  rw [Vector.toList_zipWith, crcFold_xor h (by simp)]

theorem zipWith_xor_zeros (m : Msg) : Vector.zipWith (· ^^^ ·) m (Vector.replicate 7 0) = m := by
  ext
  simp

/-- Settles O17: three loops from the seed add up to one, which starts from the seed xored three times, that
is the seed, and runs over the two messages xored with the zero message. -/
theorem crc4AffineForReferenceTable : Obligations.Crc4AffineForReferenceTable := by
  intro cfg a b h
  have hseed : cfg.crcSeed ^^^ cfg.crcSeed ^^^ cfg.crcSeed = cfg.crcSeed := by simp
  symm
  calc crc4 cfg a ^^^ crc4 cfg b ^^^ crc4 cfg (Vector.replicate 7 0)
    _ = (Vector.zipWith (· ^^^ ·) a b).toList.foldl (crcStep cfg) (cfg.crcSeed ^^^ cfg.crcSeed) ^^^
          crc4 cfg (Vector.replicate 7 0) := by rw [crcFold_xor_msg h]; rfl
    _ = (Vector.zipWith (· ^^^ ·) (Vector.zipWith (· ^^^ ·) a b) (Vector.replicate 7 0)).toList.foldl
          (crcStep cfg) (cfg.crcSeed ^^^ cfg.crcSeed ^^^ cfg.crcSeed) := (crcFold_xor_msg h _ _ _ _).symm
    _ = crc4 cfg (Vector.zipWith (· ^^^ ·) a b) := by rw [zipWith_xor_zeros, hseed, crc4]

/-! The byte-level interface (spec/40_crc4.md R106). -/

/-- The search counts from `i`. -/
theorem firstWideByte_eq_findIdx? (i : Nat) (bs : List Byte) :
    firstWideByte i bs = (bs.findIdx? fun b => 0x0F < b.toNat).map (· + i) := by
  induction bs generalizing i with
  | nil => rfl
  | cons b bs ih =>
    by_cases h : 0x0F < b.toNat
    · simp [firstWideByte, List.findIdx?_cons, h]
    · simp [firstWideByte, List.findIdx?_cons, h, ih, Function.comp_def, Nat.add_assoc, Nat.add_comm 1]

/-- The search answers the first wide byte of a frame. -/
theorem firstWideByte_eq_some {b : Vector Byte 7} {i : Fin 7} (hwide : 0x0F < b[i].toNat)
    (hbefore : ∀ j : Fin 7, j < i → b[j].toNat ≤ 0x0F) : firstWideByte 0 b.toList = some i.val := by
  have hfind : b.toList.findIdx? (fun b => 0x0F < b.toNat) = some i.val :=
    List.findIdx?_eq_some_iff_getElem.mpr ⟨by simp, by simpa using hwide,
      fun j hj => by simpa using hbefore ⟨j, hj.trans i.isLt⟩ hj⟩
  simp [firstWideByte_eq_findIdx?, hfind]

/-- The search answers nothing when no byte is wide. -/
theorem firstWideByte_eq_none {b : Vector Byte 7} (hnarrow : ∀ i : Fin 7, b[i].toNat ≤ 0x0F) :
    firstWideByte 0 b.toList = none := by
  have hmem : ∀ x ∈ b.toList, x.toNat ≤ 0x0F := by
    intro x hx
    obtain ⟨i, hi, rfl⟩ := Vector.mem_iff_getElem.mp (Vector.mem_toList_iff.mp hx)
    exact hnarrow ⟨i, hi⟩
  have hfind : b.toList.findIdx? (fun b => 0x0F < b.toNat) = none :=
    List.findIdx?_eq_none_iff.mpr fun x hx => by simpa using hmem x hx
  simp [firstWideByte_eq_findIdx?, hfind]

/-- Settles O18: the search decides between the fault at its index and the CRC of the low nibbles. -/
theorem crc4BytesFaultsOnWideByte : Obligations.Crc4BytesFaultsOnWideByte := by
  refine ⟨fun cfg b i hwide hbefore => ?_, fun cfg b hnarrow => ?_⟩
  · rw [crc4Bytes, firstWideByte_eq_some hwide hbefore]
  · rw [crc4Bytes, firstWideByte_eq_none hnarrow]

end Sys2Proof.Machine

namespace Sys2Proof.Machine

/-! The nibbles of a raw capture and of the canonical message (spec/41_frame_decoder.md R120 to R126). -/

/-- A run of bits above data nibble `i`, extended by that nibble. -/
theorem extract_append_dataNibble (raw : RawCapture) (i n : Nat) :
    raw.extractLsb' (4 * (i + 1)) n ++ dataNibble raw i = raw.extractLsb' (4 * i) (n + 4) :=
  BitVec.extractLsb'_append_extractLsb'_eq_extractLsb' rfl

/-- A run of bits above data nibble 2, extended by the data nibbles 2, 1 and 0. -/
theorem extract_append_dataNibbles (raw : RawCapture) (n : Nat) :
    raw.extractLsb' (4 * 3) n ++ dataNibble raw 2 ++ dataNibble raw 1 ++ dataNibble raw 0 =
      raw.extractLsb' 0 (n + 4 + 4 + 4) := by
  rw [extract_append_dataNibble raw 2, extract_append_dataNibble raw 1, extract_append_dataNibble raw 0]

/-- The low four data nibbles, the most significant first, are the 16-bit field. -/
theorem primaryField_eq_dataNibbles (raw : RawCapture) :
    primaryField raw = dataNibble raw 3 ++ dataNibble raw 2 ++ dataNibble raw 1 ++ dataNibble raw 0 :=
  (extract_append_dataNibbles raw 4).symm

/-- The high two data nibbles, the most significant first, are the 8-bit field. -/
theorem secondaryField_eq_dataNibbles (raw : RawCapture) :
    secondaryField raw = dataNibble raw 5 ++ dataNibble raw 4 :=
  (extract_append_dataNibble raw 4 4).symm

/-- Settles O20: `MSG[1..4]` are the data nibbles 3 down to 0, `MSG[5..6]` the data nibbles 5 and 4. -/
theorem payloadReadFromCanonicalMessage : Obligations.PayloadReadFromCanonicalMessage :=
  fun raw _ => ⟨primaryField_eq_dataNibbles raw, secondaryField_eq_dataNibbles raw⟩

/-- A raw capture is its six data nibbles, the most significant first. -/
theorem dataNibbles_append (raw : RawCapture) :
    dataNibble raw 5 ++ dataNibble raw 4 ++ dataNibble raw 3 ++ dataNibble raw 2 ++ dataNibble raw 1
      ++ dataNibble raw 0 = raw := by
  have hhigh : dataNibble raw 5 ++ dataNibble raw 4 ++ dataNibble raw 3 = raw.extractLsb' (4 * 3) (4 + 4 + 4) := by
    rw [← extract_append_dataNibble raw 3, ← extract_append_dataNibble raw 4]
    rfl
  rw [hhigh, extract_append_dataNibbles]
  exact BitVec.extractLsb'_eq_self

/-- Encoding a decoded frame gives the frame back (spec/41_frame_decoder.md R126). -/
theorem encodeFrame_decodeMsg (raw : RawCapture) (stat : Nibble) :
    encodeFrame (decodeMsg raw stat) = (raw, stat) :=
  congrArg (·, stat) (dataNibbles_append raw)

/-- Two words appended are equal exactly when their high and their low parts are. -/
theorem append_eq_append_iff {m n : Nat} {a b : BitVec m} {c d : BitVec n} : a ++ c = b ++ d ↔ a = b ∧ c = d := by
  refine ⟨fun h => ⟨?high, ?low⟩, fun ⟨hhigh, hlow⟩ => by rw [hhigh, hlow]⟩
  case high => simpa only [BitVec.extractLsb'_append_eq_left] using congrArg (BitVec.extractLsb' n m) h
  case low => simpa only [BitVec.extractLsb'_append_eq_right] using congrArg (BitVec.extractLsb' 0 n) h

/-- Decoding an encoded message gives the message back: its raw capture is the data nibbles appended, and
appended nibbles are equal one by one (spec/41_frame_decoder.md R126). -/
theorem decodeMsg_encodeFrame (m : Msg) : decodeMsg (encodeFrame m).1 (encodeFrame m).2 = m := by
  have hraw := dataNibbles_append (encodeFrame m).1
  simp only [encodeFrame, append_eq_append_iff] at hraw
  obtain ⟨⟨⟨⟨⟨h5, h4⟩, h3⟩, h2⟩, h1⟩, h0⟩ := hraw
  calc decodeMsg (encodeFrame m).1 (encodeFrame m).2
    _ = #v[m[0], m[1], m[2], m[3], m[4], m[5], m[6]] := by
      simp only [decodeMsg, encodeFrame, h5, h4, h3, h2, h1, h0]
    _ = m := (Vector.toList_inj.mp (msg_toList m)).symm

/-! The checksum an EVENT with frame-complete computes (spec/44_event_readout.md R191). -/

/-- MONSTEP does not write the computed checksum, whatever the frame's role. -/
@[simp] theorem monStep_crcCalc (c d : Byte) (r : Regs) : (monStep c d r).crcCalc = r.crcCalc := by
  obtain ⟨-, h⟩ | ⟨-, h⟩ | ⟨-, h⟩ := monStep_cases c d r <;> rw [h]
  exact compareStep_crcCalc c d _

@[simp] theorem framePath_crcCalc (cfg : Config) (raw : RawCapture) (stat : Nibble) (rcrc : Byte) (r : Regs) :
    (framePath cfg raw stat rcrc r).crcCalc = (crc4 cfg (decodeMsg raw stat)).setWidth 8 := by
  rw [framePath_eq, monStep_crcCalc, storeFrame_crcCalc]

/-- What an EVENT with frame-complete leaves: CLASSIFY and then the frame path (spec/44_event_readout.md R191). -/
theorem exec_event_with_fc (flt : BitVec 10) (raw : RawCapture) (stat : Nibble) (rcrc : Byte) (s : State) :
    exec (.event flt true raw stat rcrc) s =
      .next { s with regs := framePath s.cfg raw stat rcrc (classify flt s.regs), rdata := none } :=
  execEvent_eq flt true raw stat rcrc s

/-- Settles O19: the two inverses; the payload of an encoded message is read from the message its frame decodes
to, which is the message itself, and so is the message that the frame path gives to CRC4. -/
theorem canonicalMessageRoundTrip : Obligations.CanonicalMessageRoundTrip := by
  refine ⟨encodeFrame_decodeMsg, fun m => ?_⟩
  have hmsg := decodeMsg_encodeFrame m
  obtain ⟨hprimary, hsecondary⟩ := payloadReadFromCanonicalMessage (encodeFrame m).1 (encodeFrame m).2
  simp only [hmsg] at hprimary hsecondary
  refine ⟨hmsg, hprimary, hsecondary, fun s flt rcrc => ⟨_, exec_event_with_fc flt _ _ rcrc s, ?_⟩⟩
  rw [framePath_crcCalc, hmsg]

end Sys2Proof.Machine

namespace Sys2Proof.Machine

/-! The error counters after an EVENT, and their sum (spec/42_error_counters.md R141, R143). -/

/-- MONSTEP writes no error counter, whatever the frame's role. -/
@[simp] theorem monStep_errCnt (c d : Byte) (r : Regs) : (monStep c d r).errCnt = r.errCnt := by
  obtain ⟨-, h⟩ | ⟨-, h⟩ | ⟨-, h⟩ := monStep_cases c d r <;> rw [h]
  exact compareStep_errCnt c d _

@[simp] theorem framePath_errCnt (cfg : Config) (raw : RawCapture) (stat : Nibble) (rcrc : Byte) (r : Regs) :
    (framePath cfg raw stat rcrc r).errCnt = r.errCnt := by
  rw [framePath_eq, monStep_errCnt, storeFrame_errCnt]

/-- Every EVENT completes, and with or without frame-complete its fault flags alone decide the counters. -/
theorem exec_event_errCnt (flt : BitVec 10) (fc : Bool) (raw : RawCapture) (stat : Nibble) (rcrc : Byte)
    (s : State) :
    ∃ t, exec (.event flt fc raw stat rcrc) s = .next t ∧ t.regs.errCnt = countFaults flt s.regs.errCnt := by
  cases fc with
  | false => exact ⟨_, exec_event_without_fc flt raw stat rcrc s, classify_errCnt flt _⟩
  | true => exact ⟨_, exec_event_with_fc flt raw stat rcrc s, framePath_errCnt _ _ _ _ _⟩

/-- The flags set among the ten bits are the flags set among the ten kinds (spec/10_state.md R23). -/
theorem popcount_eq_countP_faultFlag (flt : BitVec 10) : popcount flt = allFaultKinds.countP (faultFlag flt) := by
  have hnumbers : List.range 10 = allFaultKinds.map faultNumber := by decide
  rw [popcount, hnumbers, List.countP_map]
  rfl

/-- CLASSIFY raises the sum over any list of kinds by the number of its kinds whose flag is set. -/
theorem sum_countFaults (flt : BitVec 10) (c : ErrCnt) (ks : List FaultKind) :
    (ks.map (countFaults flt c).get).sum = (ks.map c.get).sum + BitVec.ofNat 32 (ks.countP (faultFlag flt)) := by
  induction ks with
  | nil => rfl
  | cons k ks ih =>
    rw [List.map_cons, List.map_cons, List.sum_cons, List.sum_cons, List.countP_cons, ih, countFaults_get,
      BitVec.ofNat_add]
    cases faultFlag flt k with
    | false => simp [BitVec.add_assoc]
    | true =>
      simp only [if_true, BitVec.ofNat_eq_ofNat]
      ac_rfl

theorem counterSum_countFaults (flt : BitVec 10) (c : ErrCnt) :
    counterSum (countFaults flt c) = counterSum c + BitVec.ofNat 32 (popcount flt) := by
  rw [popcount_eq_countP_faultFlag]
  exact sum_countFaults flt c allFaultKinds

/-- Settles O22: an EVENT leaves the counters that CLASSIFY leaves, each flagged one risen by 1, and the sum
over the ten kinds has risen by the number of their flags. -/
theorem eventCounterSumRisesByPopcount : Obligations.EventCounterSumRisesByPopcount := by
  intro s flt fc raw stat rcrc
  obtain ⟨t, hexec, herr⟩ := exec_event_errCnt flt fc raw stat rcrc s
  refine ⟨t, hexec, fun k hflag => ?counter, ?sum⟩
  case counter => rw [herr, countFaults_get, if_pos hflag]
  case sum => rw [herr, counterSum_countFaults]

end Sys2Proof.Machine

namespace Sys2Proof.Machine

/-! One step of a run without RESET, and the induction over such runs (spec/44_event_readout.md R195,
spec/70_reset_and_hazards.md R252). -/

theorem frameTotal_append (ws vs : List TxWord) : frameTotal (ws ++ vs) = frameTotal ws + frameTotal vs :=
  List.countP_append

theorem noReset_append {ws vs : List TxWord} : noReset (ws ++ vs) ↔ noReset ws ∧ noReset vs := by
  simp only [noReset, List.any_append, Bool.or_eq_false_iff]

/-- Without RESET a step of a run performs one frame, or no frame and then only the counters may change. -/
theorem advance_cases_of_noReset {s : State} (h : noReset (s.inbox.take 1)) :
    (frameTotal (s.inbox.take 1) = 0 ∧ ∃ c, (advance s).regs = { s.regs with errCnt := c }) ∨
    (frameTotal (s.inbox.take 1) = 1 ∧ ∃ flt raw stat rcrc,
      (advance s).regs = framePath s.cfg raw stat rcrc (classify flt s.regs)) := by
  obtain ⟨-, -, ⟨hkeep, hwords⟩ | ⟨w, rest, flt, fc, raw, stat, rcrc, hi, hd, hregs⟩ | ⟨w, rest, hi, hd, -⟩⟩ :=
    advance_cases s
  · refine .inl ⟨?_, s.regs.errCnt, hkeep⟩
    cases hi : s.inbox with
    | nil => rfl
    | cons w rest =>
      have hframe : isFrameWord w = false := (hwords w (by simp [hi])).1
      simp [frameTotal, hframe]
  · have hframe : isFrameWord w = fc := by simp [isFrameWord, hd]
    cases fc with
    | false => exact .inl ⟨by simp [frameTotal, hi, hframe], _, hregs⟩
    | true => exact .inr ⟨by simp [frameTotal, hi, hframe], flt, raw, stat, rcrc, hregs⟩
  · have hreset : isResetWord w = true := by simp [isResetWord, hd]
    simp [hi, hreset] at h

/-- The induction over runs without RESET: a relation between the registers before and after, with the number
of frames between, holds along every such run when it holds of an empty run and of a step and adds up. -/
theorem advanceN_of_noReset {R : Nat → Regs → Regs → Prop} (hzero : ∀ r, R 0 r r)
    (hstep : ∀ s, noReset (s.inbox.take 1) → R (frameTotal (s.inbox.take 1)) s.regs (advance s).regs)
    (htrans : ∀ {j k r r' r''}, R j r r' → R k r' r'' → R (j + k) r r'') (n : Nat) (s : State)
    (h : noReset (s.inbox.take n)) : R (frameTotal (s.inbox.take n)) s.regs (advanceN n s).regs := by
  induction n generalizing s with
  | zero => exact hzero s.regs
  | succ n ih =>
    have htake : s.inbox.take (n + 1) = s.inbox.take 1 ++ (advance s).inbox.take n := by
      rw [(advance_cases s).2.1, Nat.add_comm, List.take_add, List.drop_one]
    rw [htake] at h ⊢
    obtain ⟨hfirst, hlater⟩ := noReset_append.mp h
    rw [frameTotal_append]
    exact htrans (hstep s hfirst) (ih (advance s) hlater)

/-! What one frame leaves, by its role (spec/43_redundancy_monitor.md R161 to R164). -/

section FrameByRole
variable {cfg : Config} {raw : RawCapture} {stat : Nibble} {rcrc : Byte} {r : Regs}

theorem framePath_warmup (h : frameRole r.warmRem r.settleRem = .warmupFrame) :
    framePath cfg raw stat rcrc r = { storeFrame cfg raw stat rcrc r with warmRem := r.warmRem - 1 } :=
  monStep_warmup h

theorem framePath_settle (h : frameRole r.warmRem r.settleRem = .settleFrame) :
    framePath cfg raw stat rcrc r =
      { storeFrame cfg raw stat rcrc r with warmRem := 0, settleRem := r.settleRem - 1 } :=
  monStep_settle h

theorem framePath_monitored (h : frameRole r.warmRem r.settleRem = .monitoredFrame) :
    framePath cfg raw stat rcrc r = compareStep ((crc4 cfg (decodeMsg raw stat)).setWidth 8) rcrc
      { storeFrame cfg raw stat rcrc r with warmRem := 0, settleRem := 0 } :=
  monStep_monitored h

end FrameByRole

/-! The windows along a run (spec/43_redundancy_monitor.md R162, R166, R169). -/

/-- The windows of `r` after `k` frames: warm-up counts down with every frame, and settling with every frame
from number `max(WARM_REM, 1)` on (spec/43_redundancy_monitor.md R169). -/
structure WindowsAfter (k : Nat) (r r' : Regs) : Prop where
  warm : r'.warmRem.toNat = r.warmRem.toNat - k
  settle : r'.settleRem.toNat = r.settleRem.toNat - (k + 1 - max r.warmRem.toNat 1)

/-- Without a frame the windows stand. -/
theorem WindowsAfter.of_no_frame {r r' : Regs} (hwarm : r'.warmRem = r.warmRem)
    (hsettle : r'.settleRem = r.settleRem) : WindowsAfter 0 r r' :=
  ⟨by rw [hwarm, Nat.sub_zero], by rw [hsettle]; omega⟩

/-- One frame, whatever its role, takes one step of both count-downs. -/
theorem WindowsAfter.of_frame (cfg : Config) (flt : BitVec 10) (raw : RawCapture) (stat : Nibble) (rcrc : Byte)
    (r : Regs) : WindowsAfter 1 r (framePath cfg raw stat rcrc (classify flt r)) := by
  cases h : frameRole r.warmRem r.settleRem with
  | warmupFrame =>
    have hwarm := frameRole_warmup_iff.mp h
    rw [framePath_warmup (r := classify flt r) h]
    constructor <;> simp <;> bv_omega
  | settleFrame =>
    obtain ⟨hwarm, hsettle⟩ := frameRole_settle_iff.mp h
    rw [framePath_settle (r := classify flt r) h]
    constructor <;> simp <;> bv_omega
  | monitoredFrame =>
    obtain ⟨hwarm, hsettle⟩ := frameRole_monitored_iff.mp h
    rw [framePath_monitored (r := classify flt r) h]
    constructor <;> simp [hsettle]
    bv_omega

theorem WindowsAfter.trans {j k : Nat} {r r' r'' : Regs} (h : WindowsAfter j r r') (h' : WindowsAfter k r' r'') :
    WindowsAfter (j + k) r r'' := by
  constructor
  · rw [h'.warm, h.warm, Nat.sub_sub]
  · rw [h'.settle, h.settle, h.warm]
    omega

/-- The windows after any run without RESET, from any state: the frames in it decide them. -/
theorem windowsAfter_advanceN (n : Nat) (s : State) (h : noReset (s.inbox.take n)) :
    WindowsAfter (frameTotal (s.inbox.take n)) s.regs (advanceN n s).regs := by
  refine advanceN_of_noReset (fun r => .of_no_frame rfl rfl) (fun s hs => ?step) .trans n s h
  obtain ⟨hk, c, hregs⟩ | ⟨hk, flt, raw, stat, rcrc, hregs⟩ := advance_cases_of_noReset hs
  · rw [hk, hregs]
    exact .of_no_frame rfl rfl
  · rw [hk, hregs]
    exact .of_frame s.cfg flt raw stat rcrc s.regs

/-- Settles O31: windows at 0 have nothing left to count down along a run without RESET, and RESET writes
them. -/
theorem monitoringLastsUntilReset : Obligations.MonitoringLastsUntilReset := by
  refine ⟨fun n s hwarm hsettle hrun => ?_, fun s => ⟨_, execReset_eq s, rfl, rfl⟩⟩
  have hw : (advanceN n s).regs.warmRem = 0 := by
    have := (windowsAfter_advanceN n s hrun).warm
    bv_omega
  have hs : (advanceN n s).regs.settleRem = 0 := by
    have := (windowsAfter_advanceN n s hrun).settle
    bv_omega
  exact ⟨frameRole_monitored_iff.mpr ⟨by simp [hw], hs⟩, hw, hs⟩

/-! The phase as a function of the registers (spec/10_state.md R28). -/

theorem phase_warmup_iff {r : Regs} : phase r = .warmup ↔ r.warmRem ≠ 0 := by
  unfold phase
  split_ifs <;> simp_all

theorem phase_settling_iff {r : Regs} : phase r = .settling ↔ r.warmRem = 0 ∧ r.settleRem ≠ 0 := by
  unfold phase
  split_ifs <;> simp_all

theorem phase_monitoringOk_iff {r : Regs} :
    phase r = .monitoringOk ↔ (r.warmRem = 0 ∧ r.settleRem = 0) ∧ r.alarmActive = false := by
  unfold phase
  split_ifs <;> simp_all

theorem phase_monitoringAlarm_iff {r : Regs} :
    phase r = .monitoringAlarm ↔ (r.warmRem = 0 ∧ r.settleRem = 0) ∧ r.alarmActive = true := by
  unfold phase
  split_ifs <;> simp_all

/-- The monitor is in one of its two `MONITORING` phases once both windows are over. -/
theorem phase_monitoring_iff {r : Regs} :
    phase r = .monitoringOk ∨ phase r = .monitoringAlarm ↔ r.warmRem = 0 ∧ r.settleRem = 0 := by
  rw [phase_monitoringOk_iff, phase_monitoringAlarm_iff, ← and_or_left]
  simp

/-- Settles O32: after `k` frames the windows hold `W - k` and `S - (k + 1 - F)`, and these two decide the role
of frame `k + 1` and the phase before it. -/
theorem frameNumbersFixTheRole : Obligations.FrameNumbersFixTheRole := by
  intro n s hw hs hrun
  obtain ⟨hwarm, hsettle⟩ := windowsAfter_advanceN n s hrun
  rw [hw] at hwarm hsettle
  rw [hs] at hsettle
  simp only [firstAfterWarmup]
  refine ⟨fun hk => ?warmup, fun hlow hhigh => ?settling, fun hk => ?monitored, fun hS hk => ?monitoring⟩
  case warmup => exact frameRole_warmup_iff.mpr (by omega)
  case settling => exact frameRole_settle_iff.mpr (by omega)
  case monitored => exact frameRole_monitored_iff.mpr ⟨by omega, BitVec.eq_of_toNat_eq (by simp; omega)⟩
  case monitoring =>
    exact phase_monitoring_iff.mpr
      ⟨BitVec.eq_of_toNat_eq (by simp; omega), BitVec.eq_of_toNat_eq (by simp; omega)⟩

/-! What an EVENT with frame-complete leaves, by the role of its frame (spec/43_redundancy_monitor.md R163,
R164). -/

section EventByRole
variable {s : State} {flt : BitVec 10} {raw : RawCapture} {stat : Nibble} {rcrc : Byte}

theorem exec_event_warmup (h : nextRole s = .warmupFrame) :
    exec (.event flt true raw stat rcrc) s = .next { s with
      regs := { storeFrame s.cfg raw stat rcrc (classify flt s.regs) with warmRem := s.regs.warmRem - 1 }
      rdata := none } := by
  rw [exec_event_with_fc, framePath_warmup (r := classify flt s.regs) h, classify_warmRem]

theorem exec_event_settle (h : nextRole s = .settleFrame) :
    exec (.event flt true raw stat rcrc) s = .next { s with
      regs := { storeFrame s.cfg raw stat rcrc (classify flt s.regs) with
        warmRem := 0, settleRem := s.regs.settleRem - 1 }
      rdata := none } := by
  rw [exec_event_with_fc, framePath_settle (r := classify flt s.regs) h, classify_settleRem]

theorem exec_event_monitored (h : nextRole s = .monitoredFrame) :
    exec (.event flt true raw stat rcrc) s = .next { s with
      regs := compareStep (crcOfFrame s raw stat) rcrc
        { storeFrame s.cfg raw stat rcrc (classify flt s.regs) with warmRem := 0, settleRem := 0 }
      rdata := none } := by
  rw [exec_event_with_fc, framePath_monitored (r := classify flt s.regs) h, crcOfFrame]

end EventByRole

/-- Settles O27: in neither role does the received checksum reach a register but `CRC_RECV`. -/
theorem suppressedFramesCompareNothing : Obligations.SuppressedFramesCompareNothing := by
  intro s flt raw stat rcrc rcrc' h
  cases hrole : nextRole s with
  | warmupFrame => exact ⟨_, _, exec_event_warmup hrole, exec_event_warmup hrole, rfl, rfl, rfl, rfl, rfl, rfl⟩
  | settleFrame => exact ⟨_, _, exec_event_settle hrole, exec_event_settle hrole, rfl, rfl, rfl, rfl, rfl, rfl⟩
  | monitoredFrame => exact absurd hrole h

/-! The comparison (spec/43_redundancy_monitor.md R164). -/

theorem mismatch_eq_true_iff {c d : Byte} : mismatch c d = true ↔ c ≠ d := bne_iff_ne

theorem mismatch_eq_false_iff {c d : Byte} : mismatch c d = false ↔ c = d := bne_eq_false_iff_eq

/-- A computed checksum is a nibble (spec/40_crc4.md R105). -/
theorem crcOfFrame_le (s : State) (raw : RawCapture) (stat : Nibble) : (crcOfFrame s raw stat).toNat ≤ 0x0F :=
  Nat.le_of_lt_succ (toNat_setWidth_lt (crc4 s.cfg (decodeMsg raw stat)) (by decide))

/-- Settles O28: the monitored frame stores the mismatch of its pair, and a computed checksum is at most
`0x0F`. -/
theorem monitoredFrameDecidesAlarm : Obligations.MonitoredFrameDecidesAlarm := by
  intro s flt raw stat rcrc h
  refine ⟨_, exec_event_monitored h, mismatch_eq_true_iff, rfl, rfl, fun hwide => mismatch_eq_true_iff.mpr ?_⟩
  rintro rfl
  exact absurd (crcOfFrame_le s raw stat) (Nat.not_le.mpr hwide)

/-- Settles O29: the alarm and the indicator are the mismatch of the pair, in which nothing else stands. -/
theorem alarmIsFrameLocal : Obligations.AlarmIsFrameLocal := by
  intro s₁ s₂ flt₁ flt₂ raw₁ raw₂ stat₁ stat₂ rcrc hpair h₁ h₂
  have hsame : mismatch (crcOfFrame s₁ raw₁ stat₁) rcrc = mismatch (crcOfFrame s₂ raw₂ stat₂) rcrc := by rw [hpair]
  exact ⟨_, _, exec_event_monitored h₁, exec_event_monitored h₂, hsame, hsame, mismatch_eq_true_iff⟩

/-- Inverting bit 0 changes a checksum. -/
theorem ne_xor_one (c : Byte) : c ≠ c ^^^ 0x01 := fun h =>
  absurd ((BitVec.xor_right_inj c).mp (BitVec.xor_zero.trans h)) (by decide)

/-- Settles O14: FRAMEOK carries the checksum CRC4 computes, and FRAMEBAD that checksum with bit 0 inverted. -/
theorem assembledFramesDecideAlarm : Obligations.AssembledFramesDecideAlarm := by
  intro s raw st hraw hst h
  have hwf : (AsmLine.frameOk raw st).wf = true := by
    simp only [AsmLine.wf, fitsField, hraw, hst, decide_true, Bool.and_self]
  have hok : mismatch (crcOfFrame s (BitVec.ofNat 24 raw) (BitVec.ofNat 4 st))
      (frameChecksum s.cfg (BitVec.ofNat 24 raw) (BitVec.ofNat 4 st)) = false := mismatch_eq_false_iff.mpr rfl
  have hbad : mismatch (crcOfFrame s (BitVec.ofNat 24 raw) (BitVec.ofNat 4 st))
      (frameChecksum s.cfg (BitVec.ofNat 24 raw) (BitVec.ofNat 4 st) ^^^ 0x01) = true :=
    mismatch_eq_true_iff.mpr (ne_xor_one _)
  exact ⟨_, _, _, _, if_pos hwf, if_pos hwf, exec_event_monitored h, hok, hok, exec_event_monitored h, hbad, hbad⟩

/-! The transition table (spec/43_redundancy_monitor.md R168). -/

/-- What a row of the table says of the registers after the frame: the phase and the five monitor registers. -/
def MonitorHolds (r : Regs) (p : Phase) (warm settle : BitVec 8) (alarm ind hb : Bool) : Prop :=
  phase r = p ∧ r.warmRem = warm ∧ r.settleRem = settle ∧ r.alarmActive = alarm ∧ r.alarmInd = ind ∧
    r.heartbeatInd = hb

section TransitionTable
variable {cfg : Config} {raw : RawCapture} {stat : Nibble} {rcrc : Byte} {r : Regs}

theorem sub_one_ne_zero_of_two_le {x : BitVec 8} (h : 2 ≤ x.toNat) : x - 1 ≠ 0 := by bv_omega

theorem framePath_stays_warmup (hw : 2 ≤ r.warmRem.toNat) :
    MonitorHolds (framePath cfg raw stat rcrc r) .warmup (r.warmRem - 1) r.settleRem r.alarmActive r.alarmInd
      r.heartbeatInd := by
  rw [framePath_warmup (frameRole_warmup_iff.mpr hw)]
  exact ⟨phase_warmup_iff.mpr (sub_one_ne_zero_of_two_le hw), rfl, rfl, rfl, rfl, rfl⟩

theorem framePath_to_settling (hw : r.warmRem.toNat ≤ 1) (hs : 2 ≤ r.settleRem.toNat) :
    MonitorHolds (framePath cfg raw stat rcrc r) .settling 0 (r.settleRem - 1) r.alarmActive r.alarmInd
      r.heartbeatInd := by
  rw [framePath_settle (frameRole_settle_iff.mpr ⟨hw, by omega⟩)]
  exact ⟨phase_settling_iff.mpr ⟨rfl, sub_one_ne_zero_of_two_le hs⟩, rfl, rfl, rfl, rfl, rfl⟩

/-- The frame that ends settling enters `MONITORING.OK` because the alarm is clear already. -/
theorem framePath_settling_to_ok (hw : r.warmRem.toNat ≤ 1) (hs : r.settleRem = 1) (halarm : r.alarmActive = false) :
    MonitorHolds (framePath cfg raw stat rcrc r) .monitoringOk 0 0 r.alarmActive r.alarmInd r.heartbeatInd := by
  have hlast : r.settleRem - 1 = 0 := by rw [hs]; decide
  rw [framePath_settle (frameRole_settle_iff.mpr ⟨hw, by simp [hs]⟩)]
  exact ⟨phase_monitoringOk_iff.mpr ⟨⟨rfl, hlast⟩, halarm⟩, rfl, hlast, rfl, rfl, rfl⟩

theorem framePath_compare_match (hw : r.warmRem.toNat ≤ 1) (hs : r.settleRem = 0)
    (hpair : (crc4 cfg (decodeMsg raw stat)).setWidth 8 = rcrc) :
    MonitorHolds (framePath cfg raw stat rcrc r) .monitoringOk 0 0 false false (!r.heartbeatInd) := by
  have halarm := mismatch_eq_false_iff.mpr hpair
  rw [framePath_monitored (frameRole_monitored_iff.mpr ⟨hw, hs⟩)]
  exact ⟨phase_monitoringOk_iff.mpr ⟨⟨rfl, rfl⟩, halarm⟩, rfl, rfl, halarm, halarm, rfl⟩

theorem framePath_compare_mismatch (hw : r.warmRem.toNat ≤ 1) (hs : r.settleRem = 0)
    (hpair : (crc4 cfg (decodeMsg raw stat)).setWidth 8 ≠ rcrc) :
    MonitorHolds (framePath cfg raw stat rcrc r) .monitoringAlarm 0 0 true true (!r.heartbeatInd) := by
  have halarm := mismatch_eq_true_iff.mpr hpair
  rw [framePath_monitored (frameRole_monitored_iff.mpr ⟨hw, hs⟩)]
  exact ⟨phase_monitoringAlarm_iff.mpr ⟨⟨rfl, rfl⟩, halarm⟩, rfl, rfl, halarm, halarm, rfl⟩

end TransitionTable

/-- While the settling window runs the alarm is clear (spec/10_state.md R40(c)). -/
theorem Inv.alarm_clear_of_settleRem {s : State} (hinv : Inv s) (h : s.regs.settleRem = 1) :
    s.regs.alarmActive = false :=
  Bool.eq_false_iff.mpr fun halarm => by
    obtain ⟨-, hsettle⟩ := hinv.alarm_only_monitoring halarm
    simp [hsettle] at h

/-- Settles O30: five cases serve the nine rows. Rows 2 to 5 start with `WARM_REM` at 1 and rows 6 to 9 with it
at 0, which the frame's role does not tell apart. -/
theorem monitorTransitionTable : Obligations.MonitorTransitionTable := by
  intro s flt raw stat rcrc hinv
  refine ⟨_, exec_event_with_fc flt raw stat rcrc s, fun _ hw => ?row1, fun _ hw hs => ?row2,
    fun _ hw hs => ?row3, fun _ hw hs hpair => ?row4, fun _ hw hs hpair => ?row5, fun hp hs => ?row6,
    fun hp hs => ?row7, fun hp hpair => ?row8, fun hp hpair => ?row9⟩
  case row1 => exact framePath_stays_warmup hw
  case row2 => exact framePath_to_settling (by simp [hw]) hs
  case row3 => exact framePath_settling_to_ok (by simp [hw]) hs (hinv.alarm_clear_of_settleRem hs)
  case row4 => exact framePath_compare_match (by simp [hw]) hs hpair
  case row5 => exact framePath_compare_mismatch (by simp [hw]) hs hpair
  case row6 =>
    have hw := (phase_settling_iff.mp hp).1
    rw [hw]
    exact framePath_to_settling (by simp [hw]) hs
  case row7 =>
    have hw := (phase_settling_iff.mp hp).1
    rw [hw]
    exact framePath_settling_to_ok (by simp [hw]) hs (hinv.alarm_clear_of_settleRem hs)
  case row8 =>
    obtain ⟨hw, hs⟩ := phase_monitoring_iff.mp hp
    rw [hw, hs]
    exact framePath_compare_match (by simp [hw]) hs hpair
  case row9 =>
    obtain ⟨hw, hs⟩ := phase_monitoring_iff.mp hp
    rw [hw, hs]
    exact framePath_compare_mismatch (by simp [hw]) hs hpair

end Sys2Proof.Machine

namespace Sys2Proof.Machine

/-! The fault flags in an EVENT (spec/44_event_readout.md R194, R197). -/

/-- The frame path neither reads nor writes the error counters (spec/44_event_readout.md R192). -/
theorem framePath_classify (cfg : Config) (flt : BitVec 10) (raw : RawCapture) (stat : Nibble) (rcrc : Byte)
    (r : Regs) :
    framePath cfg raw stat rcrc (classify flt r) =
      { framePath cfg raw stat rcrc r with errCnt := countFaults flt r.errCnt } := by
  cases h : frameRole r.warmRem r.settleRem with
  | warmupFrame => rw [framePath_warmup (r := classify flt r) h, framePath_warmup h]; rfl
  | settleFrame => rw [framePath_settle (r := classify flt r) h, framePath_settle h]; rfl
  | monitoredFrame => rw [framePath_monitored (r := classify flt r) h, framePath_monitored h]; rfl

/-- Settles O25: the flags stand in the counters alone, with or without the frame path. -/
theorem framePathIgnoresFaultFlags : Obligations.FramePathIgnoresFaultFlags := by
  intro s flt flt' fc raw stat rcrc
  cases fc with
  | false =>
    exact ⟨_, _, exec_event_without_fc flt raw stat rcrc s, exec_event_without_fc flt' raw stat rcrc s, rfl, nofun⟩
  | true =>
    refine ⟨_, _, exec_event_with_fc flt raw stat rcrc s, exec_event_with_fc flt' raw stat rcrc s, ?_, fun _ => ?_⟩
    · rw [framePath_classify, framePath_classify]
    · rw [framePath_classify]

/-- With no flag set CLASSIFY raises no counter. -/
theorem countFaults_zero (c : ErrCnt) : countFaults 0 c = c :=
  ErrCnt.ext_get fun k => by
    have hclear : faultFlag 0 k = false := BitVec.getLsbD_zero
    simp only [countFaults_get, hclear, Bool.false_eq_true, if_false]

/-- Settles O23: without frame-complete only CLASSIFY runs, and with no flag set it changes nothing. -/
theorem emptyEventChangesNoState : Obligations.EmptyEventChangesNoState := by
  intro s raw stat rcrc
  refine ⟨_, exec_event_without_fc 0 raw stat rcrc s, ?_, rfl⟩
  rw [classify, countFaults_zero]

/-! All the writes of an EVENT (spec/44_event_readout.md R191). -/

/-- MONSTEP writes the five monitor registers and no other, so the frame path leaves what the stores leave. -/
theorem framePath_eq_storeFrame (cfg : Config) (raw : RawCapture) (stat : Nibble) (rcrc : Byte) (r : Regs) :
    ∃ warm settle alarm ind hb, framePath cfg raw stat rcrc r = { storeFrame cfg raw stat rcrc r with
      warmRem := warm, settleRem := settle, alarmActive := alarm, alarmInd := ind, heartbeatInd := hb } := by
  cases h : frameRole r.warmRem r.settleRem with
  | warmupFrame => exact ⟨_, _, _, _, _, framePath_warmup h⟩
  | settleFrame => exact ⟨_, _, _, _, _, framePath_settle h⟩
  | monitoredFrame => exact ⟨_, _, _, _, _, framePath_monitored h⟩

theorem mismatch_eq_decide (c d : Byte) : mismatch c d = decide (c ≠ d) :=
  Bool.eq_iff_iff.mpr (mismatch_eq_true_iff.trans decide_eq_true_iff.symm)

/-- CRC4 reads the table and the seed of a configuration and nothing else of it. -/
theorem crc4_congr {cfg cfg' : Config} (htable : cfg.crcTable = cfg'.crcTable) (hseed : cfg.crcSeed = cfg'.crcSeed)
    (m : Msg) : crc4 cfg m = crc4 cfg' m := by
  have hstep : crcStep cfg = crcStep cfg' := by
    funext acc x
    simp only [crcStep, crcTableAt, htable]
  rw [crc4, crc4, hstep, hseed]

/-- The checksum of the worked example, under every configuration with the default table and seed 5. -/
theorem crc4_workedExample {cfg : Config} (htable : cfg.crcTable = Config.refTable) (hseed : cfg.crcSeed = 0x5#4) :
    crc4 cfg (decodeMsg 0x123456 0x7) = 0x6 := by
  rw [crc4_congr (cfg' := Config.reference) htable hseed]
  decide

/-- Settles O21: CLASSIFY decides the counters, the stores the session registers, and the role of the frame the
monitor registers. The frame of the worked example is a warm-up frame. -/
theorem eventEffect : Obligations.EventEffect := by
  refine ⟨fun s flt raw stat rcrc => ?withoutFC, fun s flt raw stat rcrc => ?withFC,
    fun cfg htable hseed hwarm => ?workedExample⟩
  case withoutFC => exact ⟨_, exec_event_without_fc flt raw stat rcrc s, countFaults_get flt _, rfl⟩
  case withFC =>
    obtain ⟨_, _, _, _, _, hstore⟩ := framePath_eq_storeFrame s.cfg raw stat rcrc (classify flt s.regs)
    refine ⟨_, exec_event_with_fc flt raw stat rcrc s, ?counters, congrArg Regs.frameCount hstore,
      congrArg Regs.rawData hstore, congrArg Regs.rawStatus hstore, congrArg Regs.payPrimary hstore,
      congrArg Regs.paySecondary hstore, congrArg Regs.crcCalc hstore, congrArg Regs.crcRecv hstore,
      congrArg Regs.sessionWr hstore, rfl, fun h => ?warmup, fun h => ?settle, fun h => ?monitored⟩
    case counters =>
      rw [framePath_errCnt]
      exact countFaults_get flt s.regs.errCnt
    case warmup =>
      rw [framePath_warmup (r := classify flt s.regs) h]
      exact ⟨rfl, rfl, rfl, rfl, rfl⟩
    case settle =>
      rw [framePath_settle (r := classify flt s.regs) h]
      exact ⟨rfl, rfl, rfl, rfl, rfl⟩
    case monitored =>
      rw [framePath_monitored (r := classify flt s.regs) h]
      exact ⟨rfl, rfl, mismatch_eq_decide _ _, rfl, rfl⟩
  case workedExample =>
    have hrole : nextRole (State.powerOn cfg) = .warmupFrame :=
      frameRole_warmup_iff.mpr (by simp [State.powerOn, Regs.powerOn, hwarm])
    have hcrc : crcOfFrame (State.powerOn cfg) 0x123456 0x7 = 0x06 :=
      congrArg (BitVec.setWidth 8) (crc4_workedExample htable hseed)
    have hrem : cfg.wInit - 1 = 2 := by rw [hwarm]; rfl
    exact ⟨_, exec_event_warmup hrole, rfl, hcrc, rfl, rfl, rfl, hrem⟩

end Sys2Proof.Machine

namespace Sys2Proof.Machine

/-! The stop of one transaction (spec/60_exceptions.md R224, R228). -/

/-- A READ of one of the four session indices faults before the first frame (spec/60_exceptions.md R224). -/
theorem exec_read_unwritten_index {reg : BitVec 5} {s : State} (hreg : reg = 11 ∨ reg = 12 ∨ reg = 15 ∨ reg = 16)
    (hwr : s.regs.sessionWr = false) : exec (.read reg) s = .fault (.unwrittenRead reg) := by
  obtain rfl | rfl | rfl | rfl := hreg
  · exact exec_read_unwritten (regOfIndex_regIndex .crcCalc) rfl hwr
  · exact exec_read_unwritten (regOfIndex_regIndex .crcRecv) rfl hwr
  · exact exec_read_unwritten (regOfIndex_regIndex .rawFrame) rfl hwr
  · exact exec_read_unwritten (regOfIndex_regIndex .payload) rfl hwr

/-- Settles O38: the step of the delivered READ is the fault of its index, and a run keeps of a fault what
`recordStop` keeps. -/
theorem readUnwrittenSessionFaults : Obligations.ReadUnwrittenSessionFaults := by
  intro s reg hreg hwr
  have hexec := exec_read_unwritten_index hreg hwr
  have hstep : step (deliverNext (encode (.read reg)) s) = .fault (.unwrittenRead reg) :=
    (step_deliverNext s (decode_encode_read reg)).trans hexec
  refine ⟨hexec, rfl, ?_, ?_⟩ <;> simp [advance_fault hstep]

/-- Only the kind `0b11` is answered with the reserved kind (spec/30_encoding.md R76). -/
theorem decode_eq_reservedKind_iff (w : TxWord) : decode w = .reservedKind ↔ kindField w = 0b11#2 := by
  refine ⟨fun h => ?_, decode_reservedKind⟩
  unfold decode at h
  split_ifs at h with hkind
  exact hkind

/-- A word of another kind that spells no transaction is answered with its reserved bits
(spec/60_exceptions.md R228). -/
theorem decode_reservedBits_of_not_instr {w : TxWord} (hkind : kindField w ≠ 0b11#2)
    (hd : ∀ i, decode w ≠ .instr i) : decode w = .reservedBits := by
  cases h : decode w with
  | instr i => exact absurd h (hd i)
  | reservedKind => exact absurd ((decode_eq_reservedKind_iff w).mp h) hkind
  | reservedBits => rfl

/-- Settles O6: the decoder answers the kind before the reserved bits, READ its reserved index before the
unwritten word, and EVENT and RESET have no outcome but the next state. -/
theorem stopPriority : Obligations.StopPriority :=
  ⟨fun _ _ _ hi => ⟨fun hkind => step_reservedKind hi (decode_reservedKind hkind),
      fun hkind hd => step_reservedBits hi (decode_reservedBits_of_not_instr hkind hd)⟩,
    fun s _ => ⟨exec_read_reserved s, exec_read_unwritten_index⟩,
    fun s flt fc raw stat rcrc => ⟨_, execEvent_eq flt fc raw stat rcrc s⟩,
    fun s => ⟨_, execReset_eq s⟩,
    fun _ _ => ⟨rfl, rfl, rfl, rfl⟩⟩

/-! The mark of the first stop along a run (spec/60_exceptions.md R221). -/

/-- A transaction that completes leaves the mark. -/
theorem firstStop_of_step_next {s t : State} (h : step s = .next t) : t.firstStop = s.firstStop := by
  obtain ⟨-, e⟩ | ⟨w, rest, -, hword⟩ := step_cases s
  · obtain rfl := Host.Outcome.next.inj (h.symm.trans e)
    rfl
  · obtain ⟨flt, fc, raw, stat, rcrc, -, e⟩ | ⟨reg, -, e⟩ | ⟨-, e⟩ | ⟨-, e⟩ | ⟨-, e⟩ := hword
    · rw [execEvent_eq] at e
      obtain rfl := Host.Outcome.next.inj (h.symm.trans e)
      rfl
    · obtain ⟨-, hread⟩ | ⟨n, -, -, -, hread⟩ | ⟨n, -, -, hread⟩ := execRead_cases reg { s with inbox := rest }
      · exact nomatch h.symm.trans (e.trans hread)
      · exact nomatch h.symm.trans (e.trans hread)
      · obtain rfl := Host.Outcome.next.inj (h.symm.trans (e.trans hread))
        rfl
    · obtain rfl := Host.Outcome.next.inj (h.symm.trans (e.trans (execReset_eq _)))
      rfl
    · exact nomatch h.symm.trans e
    · exact nomatch h.symm.trans e

/-- A stop is recorded if it is the first, and else the recorded one stays. -/
theorem recordStop_firstStop_eq_getD (x : Stop) (s : State) :
    (recordStop x s).firstStop = some (s.firstStop.getD x) := by
  rw [recordStop_firstStop, Option.or_some]

theorem recordStop_keeps_firstStop {x : Stop} {s : State} (y : Stop) (hx : s.firstStop = some x) :
    (recordStop y s).firstStop = some x := by
  rw [recordStop_firstStop_eq_getD, hx, Option.getD_some]

/-- One step of a run keeps a recorded stop, whichever of the three outcomes it has. -/
theorem advance_keeps_firstStop {s : State} {x : Stop} (hx : s.firstStop = some x) :
    (advance s).firstStop = some x := by
  cases h : step s with
  | next t => rw [advance_next h, firstStop_of_step_next h, hx]
  | fault f => rw [advance_fault h, recordStop_keeps_firstStop _ hx]
  | refused r => rw [advance_refused h, recordStop_keeps_firstStop _ hx]

theorem advanceN_keeps_firstStop (n : Nat) (s : State) (x : Stop) (hx : s.firstStop = some x) :
    (advanceN n s).firstStop = some x := by
  induction n generalizing s with
  | zero => exact hx
  | succ n ih =>
    rw [advanceN_succ]
    exact ih (advance s) (advance_keeps_firstStop hx)

/-- Settles O5: the mark is kept by a completed transaction and by a later stop, so by induction on the
number of steps along every run. -/
theorem runRecordsFirstStop : Obligations.RunRecordsFirstStop := by
  refine ⟨fun s => ?threeOutcomes, fun s t h => ⟨advance_next h, firstStop_of_step_next h⟩,
    fun s f h => ?faultRecorded, fun s r h => ?refusalRecorded, advanceN_keeps_firstStop⟩
  case threeOutcomes =>
    cases step s with
    | next t => exact .inl ⟨t, rfl⟩
    | fault f => exact .inr (.inl ⟨f, rfl⟩)
    | refused r => exact .inr (.inr ⟨r, rfl⟩)
  case faultRecorded =>
    rw [advance_fault h]
    exact ⟨rfl, recordStop_firstStop_eq_getD _ s⟩
  case refusalRecorded =>
    rw [advance_refused h]
    exact ⟨rfl, recordStop_firstStop_eq_getD _ s⟩

end Sys2Proof.Machine

namespace Sys2Proof.Machine

/-! Model construction (spec/00_scope.md R10, spec/60_exceptions.md R226). -/

/-- The parameters a configuration was built from. -/
def paramsOf (cfg : Config) : Params :=
  { crcSeed := cfg.crcSeed.toNat, crcTable := cfg.crcTable.toList.map BitVec.toNat
    wInit := cfg.wInit, sInit := cfg.sInit }

/-- A permutation of `0..n-1` is a list of `n` different numbers below `n`. -/
theorem perm_range_iff {n : Nat} {l : List Nat} :
    l.Perm (List.range n) ↔ l.length = n ∧ (∀ x ∈ l, x < n) ∧ l.Nodup := by
  constructor
  · intro h
    exact ⟨by simpa using h.length_eq, fun x hx => List.mem_range.mp (h.mem_iff.mp hx),
      h.nodup_iff.mpr List.nodup_range⟩
  · rintro ⟨hlen, hlt, hnodup⟩
    have hsub : l ⊆ List.range n := fun x hx => List.mem_range.mpr (hlt x hx)
    exact (hnodup.subperm hsub).perm_of_length_le (by simp [hlen])

/-- Numbers below 16 are kept by their nibbles. -/
theorem map_toNat_map_ofNat {l : List Nat} (h : ∀ x ∈ l, x < 16) :
    (l.map (BitVec.ofNat 4)).map BitVec.toNat = l := by
  have hkeep : ∀ x ∈ l, (BitVec.ofNat 4 x).toNat = x := fun x hx => Nat.mod_eq_of_lt (h x hx)
  rw [List.map_map]
  exact (List.map_congr_left hkeep).trans (List.map_id' l)

theorem validParams_paramsOf (cfg : Config) : validParams (paramsOf cfg) := by
  refine ⟨cfg.crcSeed.isLt, perm_range_iff.mpr ⟨by simp [paramsOf], ?_, ?_⟩⟩
  · intro x hx
    obtain ⟨b, -, rfl⟩ := List.mem_map.mp hx
    exact b.isLt
  · exact cfg.tablePerm.map BitVec.toNat_injective

/-- A configuration that passes the check holds the offered parameters. -/
theorem paramsOf_of_checkParams {p : Params} {cfg : Config} (h : checkParams p = some cfg) : paramsOf cfg = p := by
  unfold checkParams at h
  split_ifs at h with hlt hl hn
  obtain ⟨hseed, htable⟩ := hlt
  obtain rfl := Option.some.inj h
  have hseedKeep : (BitVec.ofNat 4 p.crcSeed).toNat = p.crcSeed := Nat.mod_eq_of_lt hseed
  have htableKeep : (Vector.mk (p.crcTable.map (BitVec.ofNat 4)).toArray hl).toList.map BitVec.toNat = p.crcTable :=
    map_toNat_map_ofNat (by simpa using htable)
  simp only [paramsOf, hseedKeep, htableKeep]

/-- Parameters that meet R10 pass the check. -/
theorem checkParams_of_valid {p : Params} (h : validParams p) : ∃ cfg, checkParams p = some cfg := by
  obtain ⟨hseed, hperm⟩ := h
  obtain ⟨hlen, hlt, hnodup⟩ := perm_range_iff.mp hperm
  have hmap := map_toNat_map_ofNat hlt
  have hl : (p.crcTable.map (BitVec.ofNat 4)).toArray.size = 16 := by simpa using hlen
  have hn : (Vector.mk (p.crcTable.map (BitVec.ofNat 4)).toArray hl).toList.Nodup :=
    List.Nodup.of_map BitVec.toNat (hmap.symm ▸ hnodup)
  exact ⟨_, by rw [checkParams, if_pos ⟨hseed, by simpa using hlt⟩, dif_pos hl, dif_pos hn]⟩

/-- Settles O47: the parameters that pass the check are those of some configuration, which are exactly the
parameters that meet R10. -/
theorem badConfigurationRefused : Obligations.BadConfigurationRefused := by
  intro p
  cases hc : checkParams p with
  | none =>
    have hbad : ¬ validParams p := fun h => by simpa [hc] using checkParams_of_valid h
    exact ⟨by simp [construct, hc, hbad], fun h => absurd h hbad⟩
  | some cfg =>
    obtain rfl := paramsOf_of_checkParams hc
    have hgood := validParams_paramsOf cfg
    exact ⟨by simp [construct, hc, hgood], fun _ => ⟨cfg, by simp [construct, hc], rfl, rfl, rfl, rfl⟩⟩

end Sys2Proof.Machine

namespace Sys2Proof.Machine

/-! RESET: what it leaves, and its one word (spec/70_reset_and_hazards.md R250). -/

/-- A READ of `MONREM` completes with the two windows in every state (spec/20_memory.md R54). -/
theorem exec_read_monRem (s : State) :
    exec (.read 14) s = .next { s with rdata := some ((s.regs.settleRem ++ s.regs.warmRem).setWidth 32) } :=
  exec_read_next (regOfIndex_regIndex .monRem) nofun

/-- Within its kind, only the word of RESET has every reserved bit 0: its row of the opcode map masks no bit
(spec/30_encoding.md R75, R81). -/
theorem resetRsvField_eq_zero_iff {w : TxWord} (h : kindField w = 0b10#2) :
    resetRsvField w = 0 ↔ w = encode .reset := by
  have hmask : w &&& resetRow.mask = w := BitVec.and_allOnes
  have hrow := matches_resetRow_iff w
  rw [hmask, and_iff_right h] at hrow
  exact hrow.symm

/-- The decoding of the RESET kind by its one word (spec/30_encoding.md R75, R80). -/
theorem decode_resetKind_of_word {w : TxWord} (h : kindField w = 0b10#2) :
    decode w = if w = encode .reset then .instr .reset else .reservedBits := by
  simp only [decode_resetKind h, ← resetRsvField_eq_zero_iff h, ne_eq, ite_not]

/-- Settles O41: RESET leaves the registers of `resetRegs`, whose `SESSION_WR` 0 makes the session words
fault and whose windows `MONREM` packs; the words of its kind are told apart by their reserved bits. -/
theorem resetWritesEveryRegister : Obligations.ResetWritesEveryRegister := by
  intro s
  refine ⟨_, execReset_eq s, ErrCnt.get_zero, rfl, rfl, rfl, rfl, rfl, rfl, rfl, rfl, rfl, rfl, ?session, ?monRem,
    fun w hkind => decode_resetKind_of_word hkind⟩
  case session =>
    intro reg hreg
    exact exec_read_unwritten_index (by simpa using hreg) rfl
  case monRem =>
    intro hw hs
    rw [exec_read_monRem, resetRegs_warmRem, resetRegs_settleRem, hw, hs]
    rfl

end Sys2Proof.Machine

namespace Sys2Proof.Machine

/-! The decoder and the encoder are inverse to each other (spec/30_encoding.md sections 1 and 4). -/

/-- Settles O11: each of the three formats gives its operands back. -/
theorem decodeOfEncode : Obligations.DecodeOfEncode := by
  intro i
  cases i with
  | event flt fc raw stat rcrc => exact decode_encode_event flt fc raw stat rcrc
  | read reg => exact decode_encode_read reg
  | reset => decide

/-- The words that decode to one EVENT: every field of the format has one value (spec/30_encoding.md R72). -/
theorem decode_eq_event_iff {w : TxWord} {flt : BitVec 10} {fc : Bool} {raw : RawCapture} {stat : Nibble}
    {rcrc : Byte} :
    decode w = .instr (.event flt fc raw stat rcrc) ↔
      kindField w = 0b00#2 ∧ (rsv1Field w = 0 ∧ rsv0Field w = 0) ∧
        fltField w = flt ∧ fcField w = fc ∧ rawField w = raw ∧ statField w = stat ∧ rcrcField w = rcrc := by
  simp [decode_eq_instr_iff]

theorem decode_eq_read_iff {w : TxWord} {reg : BitVec 5} :
    decode w = .instr (.read reg) ↔ kindField w = 0b01#2 ∧ readRsvField w = 0 ∧ regField w = reg := by
  simp [decode_eq_instr_iff]

theorem decode_eq_reset_iff {w : TxWord} :
    decode w = .instr .reset ↔ kindField w = 0b10#2 ∧ resetRsvField w = 0 := by
  simp [decode_eq_instr_iff]

/-- A field of one bit is that bit. -/
theorem extract_one_eq {x y : TxWord} {i : Nat} (h : x.getLsbD i = y.getLsbD i) :
    x.extractLsb' i 1 = y.extractLsb' i 1 := by
  ext j hj
  obtain rfl : j = 0 := by omega
  simpa using h

/-- Two words that decode to one transaction are the same word. -/
theorem eq_of_decode_eq {x y : TxWord} {i : Instr} (hx : decode x = .instr i) (hy : decode y = .instr i) : x = y := by
  cases i with
  | event flt fc raw stat rcrc =>
    obtain ⟨hkind, ⟨hrsv1, hrsv0⟩, hflt, hfc, hraw, hstat, hrcrc⟩ := decode_eq_event_iff.mp hx
    obtain ⟨hkind', ⟨hrsv1', hrsv0'⟩, rfl, rfl, rfl, rfl, rfl⟩ := decode_eq_event_iff.mp hy
    have hframe : x.extractLsb' 16 36 = y.extractLsb' 16 36 :=
      (extract_eq_iff_split 16 8 28).mpr ⟨hrcrc, (extract_eq_iff_split 16 4 24).mpr ⟨hstat, hraw⟩⟩
    have hlow : x.extractLsb' 0 11 = y.extractLsb' 0 11 :=
      (extract_eq_iff_split 0 1 10).mpr ⟨extract_one_eq hfc, hflt⟩
    exact (eq_iff_eventFormat x y).mpr
      ⟨hkind.trans hkind'.symm, hrsv1.trans hrsv1'.symm, hframe, hrsv0.trans hrsv0'.symm, hlow⟩
  | read reg =>
    obtain ⟨hkind, hrsv, hreg⟩ := decode_eq_read_iff.mp hx
    obtain ⟨hkind', hrsv', rfl⟩ := decode_eq_read_iff.mp hy
    exact (eq_iff_readFormat x y).mpr ⟨hkind.trans hkind'.symm, hrsv.trans hrsv'.symm, hreg⟩
  | reset =>
    obtain ⟨hkind, hrsv⟩ := decode_eq_reset_iff.mp hx
    obtain ⟨hkind', hrsv'⟩ := decode_eq_reset_iff.mp hy
    exact (eq_iff_resetFormat x y).mpr ⟨hkind.trans hkind'.symm, hrsv.trans hrsv'.symm⟩

/-- Settles O12: the word and the encoding of its transaction decode to the same. -/
theorem encodeOfDecode : Obligations.EncodeOfDecode :=
  fun _ i h => eq_of_decode_eq (decodeOfEncode i) h

/-- Settles O10: each word is closed, so the decoder evaluates. -/
theorem decodeReadsSpecWords : Obligations.DecodeReadsSpecWords := by
  refine ⟨?_, ?_, ?_, ?_, ?_, ?_, ?_, ?_⟩ <;> decide

/-! A step on the head of the inbox (spec/20_memory.md R60; log 4). -/

/-- Settles O1: the step takes the head word and dispatches on what it decodes to. -/
theorem stepPerformsDecodedTransaction : Obligations.StepPerformsDecodedTransaction := by
  intro s w rest i hi hd
  rw [step_cons hi, performWord, hd]

/-- Settles O4: with an empty inbox there is no word to take. -/
theorem stepWaitsWithoutTransaction : Obligations.StepWaitsWithoutTransaction :=
  fun _ => step_nil

/-- The host's placement of a 64-bit word is its delivery at the head of the inbox. -/
theorem withFetchWord_toNat (s : State) (w : TxWord) : s.withFetchWord 64 w.toNat = deliverNext w s := by
  rw [State.withFetchWord, Nat.mod_eq_of_lt w.isLt, BitVec.ofNat_toNat, BitVec.setWidth_eq]

/-- Settles O7: the placed word decodes to its transaction, which the step performs on the state as it was. -/
theorem deliveredTransactionRunsNext : Obligations.DeliveredTransactionRunsNext := by
  intro s i
  rw [withFetchWord_toNat]
  exact step_deliverNext s (decodeOfEncode i)

end Sys2Proof.Machine

namespace Sys2Proof.Machine

/-! The tally and the heartbeat along a run without RESET (spec/10_state.md R40(f), (g)). -/

/-- MONSTEP does not write the tally, whatever the frame's role. -/
@[simp] theorem monStep_frameCount (c d : Byte) (r : Regs) : (monStep c d r).frameCount = r.frameCount := by
  obtain ⟨-, h⟩ | ⟨-, h⟩ | ⟨-, h⟩ := monStep_cases c d r <;> rw [h]
  exact compareStep_frameCount c d _

@[simp] theorem framePath_frameCount (cfg : Config) (raw : RawCapture) (stat : Nibble) (rcrc : Byte) (r : Regs) :
    (framePath cfg raw stat rcrc r).frameCount = r.frameCount + 1 := by
  rw [framePath_eq, monStep_frameCount, storeFrame_frameCount]

/-- How many of the next `k` frames are monitored: those past the two windows (spec/43_redundancy_monitor.md R169). -/
def monitoredAmong (k : Nat) (r : Regs) : Nat := k - (max r.warmRem.toNat 1 + r.settleRem.toNat - 1)

/-- The monitored frames of two runs in a row: the first run takes its frames off the windows. -/
theorem monitoredAmong_add {j : Nat} {r r' : Regs} (h : WindowsAfter j r r') (k : Nat) :
    monitoredAmong (j + k) r = monitoredAmong j r + monitoredAmong k r' := by
  simp only [monitoredAmong, h.warm, h.settle]
  omega

theorem monitoredAmong_one_eq_zero {r : Regs} (h : frameRole r.warmRem r.settleRem ≠ .monitoredFrame) :
    monitoredAmong 1 r = 0 := by
  have := mt frameRole_monitored_iff.mpr h
  unfold monitoredAmong
  bv_omega

theorem monitoredAmong_one_eq_one {r : Regs} (h : frameRole r.warmRem r.settleRem = .monitoredFrame) :
    monitoredAmong 1 r = 1 := by
  obtain ⟨hwarm, hsettle⟩ := frameRole_monitored_iff.mp h
  unfold monitoredAmong
  bv_omega

/-- What `k` frames, and no RESET, make of the windows, the tally and the heartbeat. -/
structure CountedAfter (k : Nat) (r r' : Regs) : Prop where
  windows : WindowsAfter k r r'
  tally : r'.frameCount = r.frameCount + BitVec.ofNat 32 k
  heartbeat : r'.heartbeatInd = (r.heartbeatInd ^^ decide (monitoredAmong k r % 2 = 1))

theorem CountedAfter.of_no_frame (r : Regs) (c : ErrCnt) : CountedAfter 0 r { r with errCnt := c } :=
  ⟨.of_no_frame rfl rfl, by simp, by simp [monitoredAmong]⟩

theorem CountedAfter.of_frame (cfg : Config) (flt : BitVec 10) (raw : RawCapture) (stat : Nibble) (rcrc : Byte)
    (r : Regs) : CountedAfter 1 r (framePath cfg raw stat rcrc (classify flt r)) := by
  refine ⟨.of_frame cfg flt raw stat rcrc r, by simp, ?_⟩
  cases h : frameRole r.warmRem r.settleRem with
  | warmupFrame =>
    rw [framePath_warmup (r := classify flt r) h, monitoredAmong_one_eq_zero (by simp [h])]
    simp
  | settleFrame =>
    rw [framePath_settle (r := classify flt r) h, monitoredAmong_one_eq_zero (by simp [h])]
    simp
  | monitoredFrame =>
    rw [framePath_monitored (r := classify flt r) h, monitoredAmong_one_eq_one h]
    simp

/-- The parities of two counts add up by exclusive or. -/
theorem decide_add_mod_two (m n : Nat) :
    decide ((m + n) % 2 = 1) = (decide (m % 2 = 1) ^^ decide (n % 2 = 1)) := by
  obtain hm | hm := Nat.mod_two_eq_zero_or_one m <;> obtain hn | hn := Nat.mod_two_eq_zero_or_one n <;>
    simp [Nat.add_mod, hm, hn]

theorem CountedAfter.trans {j k : Nat} {r r' r'' : Regs} (h : CountedAfter j r r') (h' : CountedAfter k r' r'') :
    CountedAfter (j + k) r r'' where
  windows := h.windows.trans h'.windows
  tally := by rw [h'.tally, h.tally, BitVec.ofNat_add, BitVec.add_assoc]
  heartbeat := by
    rw [h'.heartbeat, h.heartbeat, monitoredAmong_add h.windows, decide_add_mod_two, Bool.xor_assoc]

theorem countedAfter_advanceN (n : Nat) (s : State) (h : noReset (s.inbox.take n)) :
    CountedAfter (frameTotal (s.inbox.take n)) s.regs (advanceN n s).regs := by
  refine advanceN_of_noReset (fun r => .of_no_frame r r.errCnt) (fun s hs => ?step) .trans n s h
  obtain ⟨hk, c, hregs⟩ | ⟨hk, flt, raw, stat, rcrc, hregs⟩ := advance_cases_of_noReset hs
  · rw [hk, hregs]
    exact .of_no_frame s.regs c
  · rw [hk, hregs]
    exact .of_frame s.cfg flt raw stat rcrc s.regs

/-- Settles O33: with both windows full, the frames past them are those from number `F + S` on. -/
theorem tallyAndHeartbeatCountFrames : Obligations.TallyAndHeartbeatCountFrames := by
  intro n s hrun
  obtain ⟨-, htally, hheartbeat⟩ := countedAfter_advanceN n s hrun
  refine ⟨htally, fun hwarm hsettle => ?_⟩
  rw [hheartbeat, monitoredAmong, hwarm, hsettle, firstAfterWarmup]

/-! Telemetry read around some transactions (spec/70_reset_and_hazards.md R257). -/

theorem advanceN_succ_last (n : Nat) (s : State) : advanceN (n + 1) s = advance (advanceN n s) := by
  induction n generalizing s with
  | zero => rfl
  | succ n ih => exact ih (advance s)

/-- A run takes the words off the inbox in order, one per step. -/
theorem advanceN_inbox (n : Nat) (s : State) : (advanceN n s).inbox = s.inbox.drop n := by
  induction n generalizing s with
  | zero => rfl
  | succ n ih => rw [advanceN_succ, ih, (advance_cases s).2.1, ← List.drop_one, List.drop_drop, Nat.add_comm]

/-- The step that performs a READ of `FRAMECNT` has the tally as its result. -/
theorem advance_rdata_of_read_frameCnt {s : State} {rest : List TxWord}
    (hi : s.inbox = encode (.read 10) :: rest) : (advance s).rdata = some s.regs.frameCount := by
  have hstep : step s = .next { s with inbox := rest, rdata := some s.regs.frameCount } :=
    (stepPerformsDecodedTransaction s _ rest _ hi (decodeOfEncode _)).trans
      (exec_read_next (regOfIndex_regIndex .frameCnt) nofun)
  rw [advance_next hstep]

/-- Without a frame and without RESET a run leaves the session registers (spec/10_state.md R36). -/
theorem sessionOf_advanceN {n : Nat} {s : State} (hrun : noReset (s.inbox.take n))
    (hframes : frameTotal (s.inbox.take n) = 0) : sessionOf (advanceN n s).regs = sessionOf s.regs := by
  refine advanceN_of_noReset (R := fun k r r' => k = 0 → sessionOf r' = sessionOf r) (fun _ _ => rfl)
    (fun s hs => ?step) (fun h h' hk => ?trans) n s hrun hframes
  case step =>
    obtain ⟨-, c, hregs⟩ | ⟨hk, -⟩ := advance_cases_of_noReset hs
    · intro _
      rw [hregs]
      rfl
    · omega
  case trans => exact (h' (by omega)).trans (h (by omega))

/-- A part of a run without frame and without RESET is one itself. -/
theorem noReset_noFrame_of_sublist {ws vs : List TxWord} (h : ws.Sublist vs) (hvs : noReset vs ∧ frameTotal vs = 0) :
    noReset ws ∧ frameTotal ws = 0 := by
  obtain ⟨hreset, hframes⟩ := hvs
  refine ⟨?_, Nat.le_zero.mp (hframes ▸ h.countP_le)⟩
  simp only [noReset, List.any_eq_false] at hreset ⊢
  exact fun w hw => hreset w (h.subset hw)

/-- A READ of `FRAMECNT` is neither a frame nor a RESET. -/
theorem read_frameCnt_noReset_noFrame :
    noReset [encode (.read 10)] ∧ frameTotal [encode (.read 10)] = 0 := by decide

/-- Settles O34: the second READ returns the first result plus the frames between, modulo `2^32`, so equal
results mean none; then from the first READ through the second no word is a frame or a RESET. -/
theorem tornTelemetryDetected : Obligations.TornTelemetryDetected := by
  intro s ws rest hi hws hlt hequal
  obtain ⟨hreset, hframe⟩ := read_frameCnt_noReset_noFrame
  have hbefore : s.inbox.take (ws.length + 1) = [encode (.read 10)] ++ ws := by simp [hi]
  have hthrough : s.inbox.take (ws.length + 2) = [encode (.read 10)] ++ ws ++ [encode (.read 10)] := by
    simp [hi, List.take_append]
  have hsecond : (advanceN (ws.length + 1) s).inbox = encode (.read 10) :: rest := by
    rw [advanceN_inbox, hi]
    simp
  have htally := (countedAfter_advanceN (ws.length + 1) s (hbefore ▸ noReset_append.mpr ⟨hreset, hws⟩)).tally
  rw [hbefore, frameTotal_append, hframe, Nat.zero_add] at htally
  have hnone : frameTotal ws = 0 := by
    rw [advance_rdata_of_read_frameCnt hi, advanceN_succ_last, advance_rdata_of_read_frameCnt hsecond, htally,
      Option.some.injEq] at hequal
    bv_omega
  have hquiet : noReset (s.inbox.take (ws.length + 2)) ∧ frameTotal (s.inbox.take (ws.length + 2)) = 0 := by
    rw [hthrough, frameTotal_append, frameTotal_append, hframe, hnone]
    exact ⟨noReset_append.mpr ⟨noReset_append.mpr ⟨hreset, hws⟩, hreset⟩, rfl⟩
  refine ⟨hnone, fun j hj => ?_⟩
  obtain ⟨hrun, hframes⟩ := noReset_noFrame_of_sublist (List.take_sublist_take_left hj) hquiet
  exact sessionOf_advanceN hrun hframes

end Sys2Proof.Machine

namespace Sys2Proof.Machine

/-! The invariant of R40(a) to (e) (spec/10_state.md section 8). -/

/-- With full windows, no alarm and no frame stored the invariant holds: at power-on and after RESET. -/
theorem Inv.of_full_windows {s : State} (hwarm : s.regs.warmRem = s.cfg.wInit)
    (hsettle : s.regs.settleRem = s.cfg.sInit) (halarm : s.regs.alarmActive = false)
    (hind : s.regs.alarmInd = false) (hwr : s.regs.sessionWr = false) : Inv s where
  warm_le := by rw [hwarm]
  settle_le := by rw [hsettle]
  settling_after_warmup h := absurd h (by simp [hsettle])
  alarm_only_monitoring h := absurd h (by simp [halarm])
  indicator_follows_alarm := by rw [hind, halarm]
  session_consistent h := absurd h (by simp [hwr])

/-- Settles O44: both windows are full at power-on. -/
theorem invariantAtPowerOn : Obligations.InvariantAtPowerOn := by
  have hpower (cfg : Config) : Inv (State.powerOn cfg) := .of_full_windows rfl rfl rfl rfl rfl
  exact ⟨hpower Config.reference, hpower⟩

/-- What the frame path stores meets R40(e), whatever MONSTEP makes of the frame. -/
theorem framePath_session_consistent (cfg : Config) (raw : RawCapture) (stat : Nibble) (rcrc : Byte) (r : Regs) :
    (framePath cfg raw stat rcrc r).crcCalc.extractLsb' 4 4 = 0 ∧
    (framePath cfg raw stat rcrc r).payPrimary = (framePath cfg raw stat rcrc r).rawData.extractLsb' 0 16 ∧
    (framePath cfg raw stat rcrc r).paySecondary = (framePath cfg raw stat rcrc r).rawData.extractLsb' 16 8 := by
  obtain ⟨_, _, _, _, _, h⟩ := framePath_eq_storeFrame cfg raw stat rcrc r
  rw [h]
  exact ⟨extract_above_setWidth _ _ _, rfl, rfl⟩

theorem toNat_sub_one_le {x : BitVec 8} (h : x ≠ 0) : (x - 1).toNat ≤ x.toNat := by bv_omega

section InvariantOfStep
variable {s t : State}

/-- The invariant does not speak of the error counters. -/
theorem Inv.of_errCnt (h : Inv s) (hcfg : t.cfg = s.cfg) {c : ErrCnt} (hregs : t.regs = { s.regs with errCnt := c }) :
    Inv t := by
  obtain ⟨hwarm, hsettle, hafter, halarm, hind, hsession⟩ := h
  constructor <;> simp only [hcfg, hregs] <;> assumption

/-- A warm-up frame keeps the invariant: warm-up still ran, so the alarm is clear and settling is untouched. -/
theorem Inv.frame_warmup {raw : RawCapture} {stat : Nibble} {rcrc : Byte} (h : Inv s)
    (hrole : frameRole s.regs.warmRem s.regs.settleRem = .warmupFrame) :
    Inv { s with regs := framePath s.cfg raw stat rcrc s.regs } := by
  have hwarm := frameRole_warmup_iff.mp hrole
  have hrunning : s.regs.warmRem ≠ 0 := by bv_omega
  have hsession := framePath_session_consistent s.cfg raw stat rcrc s.regs
  rw [framePath_warmup hrole] at hsession ⊢
  exact
    { warm_le := (toNat_sub_one_le hrunning).trans h.warm_le
      settle_le := h.settle_le
      settling_after_warmup := fun hlt => absurd (h.settling_after_warmup hlt) hrunning
      alarm_only_monitoring := fun halarm => absurd (h.alarm_only_monitoring halarm).1 hrunning
      indicator_follows_alarm := h.indicator_follows_alarm
      session_consistent := fun _ => hsession }

/-- A settling frame keeps it: warm-up is over with it, and the alarm is clear while settling still ran. -/
theorem Inv.frame_settle {raw : RawCapture} {stat : Nibble} {rcrc : Byte} (h : Inv s)
    (hrole : frameRole s.regs.warmRem s.regs.settleRem = .settleFrame) :
    Inv { s with regs := framePath s.cfg raw stat rcrc s.regs } := by
  obtain ⟨-, hsettle⟩ := frameRole_settle_iff.mp hrole
  have hrunning : s.regs.settleRem ≠ 0 := by bv_omega
  have hsession := framePath_session_consistent s.cfg raw stat rcrc s.regs
  rw [framePath_settle hrole] at hsession ⊢
  exact
    { warm_le := Nat.zero_le _
      settle_le := (toNat_sub_one_le hrunning).trans h.settle_le
      settling_after_warmup := fun _ => rfl
      alarm_only_monitoring := fun halarm => absurd (h.alarm_only_monitoring halarm).2 hrunning
      indicator_follows_alarm := h.indicator_follows_alarm
      session_consistent := fun _ => hsession }

/-- After a monitored frame the invariant holds whatever stood before: both windows are over and the indicator is
the alarm. -/
theorem Inv.of_frame_monitored {raw : RawCapture} {stat : Nibble} {rcrc : Byte}
    (hrole : frameRole s.regs.warmRem s.regs.settleRem = .monitoredFrame) :
    Inv { s with regs := framePath s.cfg raw stat rcrc s.regs } := by
  have hsession := framePath_session_consistent s.cfg raw stat rcrc s.regs
  rw [framePath_monitored hrole] at hsession ⊢
  exact
    { warm_le := Nat.zero_le _
      settle_le := Nat.zero_le _
      settling_after_warmup := fun _ => rfl
      alarm_only_monitoring := fun _ => ⟨rfl, rfl⟩
      indicator_follows_alarm := rfl
      session_consistent := fun _ => hsession }

end InvariantOfStep

/-- One step of a run keeps the invariant, also when its transaction stops. -/
theorem advance_keeps_inv {s : State} (h : Inv s) : Inv (advance s) := by
  have hcfg := advance_cfg s
  obtain ⟨-, -, ⟨hregs, -⟩ | ⟨w, rest, flt, fc, raw, stat, rcrc, -, -, hregs⟩ | ⟨w, rest, -, -, hregs⟩⟩ :=
    advance_cases s
  · exact h.of_errCnt hcfg hregs
  · cases fc with
    | false => exact h.of_errCnt hcfg hregs
    | true =>
      refine Inv.of_errCnt (s := { s with regs := framePath s.cfg raw stat rcrc s.regs }) ?_ hcfg
        (hregs.trans (framePath_classify _ _ _ _ _ _))
      cases hrole : frameRole s.regs.warmRem s.regs.settleRem with
      | warmupFrame => exact h.frame_warmup hrole
      | settleFrame => exact h.frame_settle hrole
      | monitoredFrame => exact .of_frame_monitored hrole
  · apply Inv.of_full_windows <;> simp [hregs]

/-- Settles O45: a step that answers a next state is the step of a run to it. -/
theorem stepKeepsInvariant : Obligations.StepKeepsInvariant := by
  intro s t hinv hstep
  rw [← advance_next hstep]
  exact advance_keeps_inv hinv

end Sys2Proof.Machine

namespace Sys2Proof.Machine

/-! What the session registers hold before the first frame (spec/10_state.md R36). -/

@[simp] theorem withSession_sessionOf (r : Regs) : withSession (sessionOf r) r = r := rfl

/-- RESET at any index of the free values leaves the same specified registers (log 3). -/
theorem withSession_resetRegs (cfg : Config) (m n : Nat) :
    withSession (sessionOf (resetRegs cfg m)) (resetRegs cfg n) = resetRegs cfg m := rfl

theorem withSession_powerOn (cfg : Config) (m n : Nat) :
    withSession (sessionOf (resetRegs cfg m)) (Regs.powerOn cfg n) = resetRegs cfg m := rfl

/-- CLASSIFY neither reads nor writes the session registers. -/
theorem classify_withSession (flt : BitVec 10) (v : Session) (r : Regs) :
    classify flt (withSession v r) = withSession v (classify flt r) := rfl

/-- The frame path reads no session register and writes them all. -/
theorem framePath_withSession (cfg : Config) (raw : RawCapture) (stat : Nibble) (rcrc : Byte) (v : Session)
    (r : Regs) : framePath cfg raw stat rcrc (withSession v r) = framePath cfg raw stat rcrc r := rfl

/-- A word that is no session word does not depend on the session registers (spec/20_memory.md R51). -/
theorem readReg_withSession {n : RegName} (h : isSessionWord n = false) (v : Session) (r : Regs) :
    readReg n (withSession v r) = readReg n r := by
  cases n with
  | errCnt | frameCnt | monStat | monRem => rfl
  | crcCalc | crcRecv | rawFrame | payload => exact nomatch h

/-- Settles O42: RESET writes the power-on values from its own list, and only the free values may differ. -/
theorem resetIsPowerOnAgain : Obligations.ResetIsPowerOnAgain := by
  intro s
  refine ⟨_, execReset_eq s, withSession_powerOn s.cfg _ _, fun h => ?again⟩
  case again =>
    rw [h]
    exact ⟨rfl, rfl, rfl, rfl, rfl, nofun⟩

/-- The same outcome, and a next state that agrees in all that is specified. -/
inductive OutcomesAgree : Host.Outcome State Fault Refusal → Host.Outcome State Fault Refusal → Prop
  | next {s t : State} (h : AgreeOnSpecified s t) : OutcomesAgree (.next s) (.next t)
  | fault (f : Fault) : OutcomesAgree (.fault f) (.fault f)
  | refused (r : Refusal) : OutcomesAgree (.refused r) (.refused r)

section Agreement
variable {s t : State}

theorem AgreeOnSpecified.sessionWr_eq (h : AgreeOnSpecified s t) : t.regs.sessionWr = s.regs.sessionWr := by
  rw [← h.regs, withSession_sessionWr]

/-- Once a frame is stored nothing in the registers is unspecified. -/
theorem AgreeOnSpecified.regs_eq (h : AgreeOnSpecified s t) (hwr : s.regs.sessionWr = true) : s.regs = t.regs := by
  rw [← h.regs, ← h.session hwr, withSession_sessionOf]

/-- A READ that does not fault has the same result in both states. -/
theorem AgreeOnSpecified.readReg_eq (h : AgreeOnSpecified s t) {n : RegName}
    (hn : isSessionWord n = true → s.regs.sessionWr = true) : readReg n s.regs = readReg n t.regs := by
  cases hsession : isSessionWord n with
  | false => rw [← h.regs, readReg_withSession hsession]
  | true => rw [h.regs_eq (hn hsession)]

theorem exec_event_agree (h : AgreeOnSpecified s t) (flt : BitVec 10) (fc : Bool) (raw : RawCapture)
    (stat : Nibble) (rcrc : Byte) :
    OutcomesAgree (exec (.event flt fc raw stat rcrc) s) (exec (.event flt fc raw stat rcrc) t) := by
  cases fc with
  | false =>
    rw [exec_event_without_fc, exec_event_without_fc]
    exact .next { h with rdata := rfl, regs := congrArg (classify flt) h.regs }
  | true =>
    have hframe : framePath s.cfg raw stat rcrc (classify flt s.regs) =
        framePath t.cfg raw stat rcrc (classify flt t.regs) := by
      rw [← h.regs, classify_withSession, framePath_withSession, h.cfg]
    rw [exec_event_with_fc, exec_event_with_fc, hframe]
    exact .next { h with rdata := rfl, regs := rfl, session := fun _ => rfl }

theorem exec_read_agree (h : AgreeOnSpecified s t) (reg : BitVec 5) :
    OutcomesAgree (exec (.read reg) s) (exec (.read reg) t) := by
  obtain ⟨hn, -⟩ | ⟨n, hn, hsession, hwr, -⟩ | ⟨n, hn, hwr, -⟩ := execRead_cases reg s
  · have hreserved := (regOfIndex_eq_none_iff reg).mp hn
    rw [exec_read_reserved s hreserved, exec_read_reserved t hreserved]
    exact .refused _
  · rw [exec_read_unwritten hn hsession hwr, exec_read_unwritten hn hsession (h.sessionWr_eq.trans hwr)]
    exact .fault _
  · rw [exec_read_next hn hwr, exec_read_next hn (by rwa [h.sessionWr_eq]), h.readReg_eq hwr]
    exact .next { h with rdata := rfl }

theorem exec_reset_agree (h : AgreeOnSpecified s t) : OutcomesAgree (exec .reset s) (exec .reset t) := by
  have hregs := withSession_resetRegs t.cfg (t.resets + 1) (s.resets + 1)
  exact .next { h with rdata := rfl, regs := h.cfg ▸ hregs, session := nofun }

/-- No transaction tells the two states apart. -/
theorem exec_agree (h : AgreeOnSpecified s t) (i : Instr) : OutcomesAgree (exec i s) (exec i t) := by
  cases i with
  | event flt fc raw stat rcrc => exact exec_event_agree h flt fc raw stat rcrc
  | read reg => exact exec_read_agree h reg
  | reset => exact exec_reset_agree h

theorem step_agree (h : AgreeOnSpecified s t) : OutcomesAgree (step s) (step t) := by
  cases hi : s.inbox with
  | nil =>
    rw [step_nil hi, step_nil (h.inbox ▸ hi)]
    exact .next h
  | cons w rest =>
    rw [step_cons hi, step_cons (h.inbox ▸ hi), performWord, performWord]
    cases decode w with
    | instr i =>
      have htail : AgreeOnSpecified { s with inbox := rest } { t with inbox := rest } := { h with inbox := rfl }
      exact exec_agree htail i
    | reservedKind => exact .refused _
    | reservedBits => exact .refused _

theorem recordStop_agree (h : AgreeOnSpecified s t) (x : Stop) :
    AgreeOnSpecified (recordStop x s) (recordStop x t) :=
  { h with
    inbox := congrArg List.tail h.inbox
    rdata := rfl
    firstStop := congrArg (·.or (some x)) h.firstStop }

/-- A run goes on alike after agreeing outcomes: the same stop is recorded in both. -/
theorem advance_agree (h : AgreeOnSpecified s t) : AgreeOnSpecified (advance s) (advance t) := by
  have hstep := step_agree h
  unfold advance
  generalize step s = o, step t = o' at hstep ⊢
  cases hstep with
  | next hnext => exact hnext
  | fault f => exact recordStop_agree h _
  | refused r => exact recordStop_agree h _

end Agreement

/-- Settles O46, by induction on the number of steps: no outcome of a step tells the two machines apart. -/
theorem unspecifiedSessionNeverObserved : Obligations.UnspecifiedSessionNeverObserved := by
  intro n
  induction n with
  | zero => exact fun _ _ h => h
  | succ n ih => exact fun s t h => ih (advance s) (advance t) (advance_agree h)

end Sys2Proof.Machine

namespace Sys2Proof.Machine

/-! The counters: what READ returns of them, and how a step without RESET moves them (spec/20_memory.md R51,
spec/44_event_readout.md R192, spec/70_reset_and_hazards.md R252). -/

/-- Settles O35: each index names its word, and the word is the register, narrow ones zero-extended. -/
theorem readReturnsCountersAndChecksums : Obligations.ReadReturnsCountersAndChecksums := by
  intro s
  refine ⟨fun k => ?counter, exec_read_next (regOfIndex_regIndex .frameCnt) nofun, fun hwr =>
    ⟨exec_read_next (regOfIndex_regIndex .crcCalc) fun _ => hwr,
      exec_read_next (regOfIndex_regIndex .crcRecv) fun _ => hwr⟩⟩
  case counter =>
    rw [← regIndex_errCnt]
    exact exec_read_next (regOfIndex_regIndex (.errCnt k)) nofun

/-- Settles O26: the frame path keeps the counters that CLASSIFY raises, and CLASSIFY keeps all others. -/
theorem classifyCommutesWithFramePath : Obligations.ClassifyCommutesWithFramePath := by
  intro cfg r flt raw stat rcrc
  rw [framePath_classify, classify, framePath_errCnt]

/-- Without RESET a step of a run leaves the counters or performs one CLASSIFY on them. -/
theorem advance_errCnt_of_noReset {s : State} (h : noReset (s.inbox.take 1)) :
    (advance s).regs.errCnt = s.regs.errCnt ∨ ∃ flt, (advance s).regs.errCnt = countFaults flt s.regs.errCnt := by
  obtain ⟨-, -, ⟨hkeep, -⟩ | ⟨w, rest, flt, fc, raw, stat, rcrc, -, -, hregs⟩ | ⟨w, rest, hi, hd, -⟩⟩ :=
    advance_cases s
  · exact .inl (by rw [hkeep])
  · refine .inr ⟨flt, ?_⟩
    rw [hregs]
    cases fc with
    | false => rfl
    | true => exact framePath_errCnt _ _ _ _ _
  · have hreset : isResetWord w = true := by simp [isResetWord, hd]
    simp [hi, hreset] at h

theorem countFaults_get_eq_or (flt : BitVec 10) (c : ErrCnt) (k : FaultKind) :
    (countFaults flt c).get k = c.get k ∨ (countFaults flt c).get k = c.get k + 1 := by
  rw [countFaults_get]
  split
  · exact .inr rfl
  · exact .inl rfl

/-- Settles O43: a step without RESET performs at most one CLASSIFY and one frame, and the windows only count
down, `WARM_REM` of `WARMUP` among them. -/
theorem onlyResetGoesBack : Obligations.OnlyResetGoesBack := by
  intro s hrun
  obtain ⟨hwarm, hsettle⟩ := windowsAfter_advanceN 1 s hrun
  simp only [advanceN_succ, advanceN_zero] at hwarm hsettle
  refine ⟨fun k => ?counters, ?tally, by omega, by omega, fun hphase => ?phase⟩
  case counters =>
    obtain herr | ⟨flt, herr⟩ := advance_errCnt_of_noReset hrun
    · exact .inl (by rw [herr])
    · rw [herr]
      exact countFaults_get_eq_or flt s.regs.errCnt k
  case tally =>
    obtain ⟨-, c, hregs⟩ | ⟨-, flt, raw, stat, rcrc, hregs⟩ := advance_cases_of_noReset hrun
    · exact .inl (by rw [hregs])
    · exact .inr (by rw [hregs, framePath_frameCount, classify_frameCount])
  case phase =>
    rw [phase_warmup_iff] at hphase ⊢
    bv_omega

end Sys2Proof.Machine
